-- ==== Sys2Proof/Word.lean ====
section
/-! DEFINITION. The word types of the block. Every access moves one byte (rule R60), and every
operation is selected by one 27-bit transaction word (rule R90). -/

namespace Sys2Proof

/-- One byte: the datum of every access (rule R60). -/
abbrev Byte := BitVec 8

/-- The transaction word `TW = kind[26:24] | addr[23:8] | data[7:0]` (rule R90). -/
abbrev Tw := BitVec 27

end Sys2Proof
end

