-- ==== Sys2Proof/Config.lean ====
section
/-! DEFINITION. What a cartridge fixes for its life (rule R6), and the free values: constants with
no body, so that no proof can see what they are. -/

namespace Sys2Proof

/-- The six mapper variants in scope (rules R1, R2, R6). Any other numeric ID has no constructor: it
is refused when the block is configured (rule R281). -/
inductive MapperId where
  | m0 | m1 | m2 | m3 | m4 | m9
  deriving DecidableEq, Repr

/-- The mappers that have static RAM (rules R20, R33). -/
def MapperId.ownsSram : MapperId → Bool
  | .m1 => true
  | .m4 => true
  | .m0 => false
  | .m2 => false
  | .m3 => false
  | .m9 => false

/-- The numeric mapper ID of a variant (rule R2). -/
def MapperId.number : MapperId → Nat
  | .m0 => 0 | .m1 => 1 | .m2 => 2 | .m3 => 3 | .m4 => 4 | .m9 => 9

/-- The variant a numeric ID selects, none for an unsupported ID (rules R6, R281). -/
def MapperId.ofNumber : Nat → Option MapperId
  | 0 => some .m0 | 1 => some .m1 | 2 => some .m2 | 3 => some .m3 | 4 => some .m4 | 9 => some .m9
  | _ => none

/-- The six-valued `MIRROR` type (rule R32). -/
inductive MirrorMode where
  | horizontal | vertical | oneScreenLo | oneScreenHi | fourScreen | hardware
  deriving DecidableEq, Repr

/-- The cartridge's hard-wired mirroring `hw_mirror` (rule R6). -/
inductive HwMirror where
  | horizontal | vertical | fourScreen
  deriving DecidableEq, Repr

/-- A latch of mapper 9: FD is "low", FE is "high" (rule R31). -/
inductive Latch where
  | fd | fe
  deriving DecidableEq, Repr

/-- The instance of the open parameter `MMC1_ACCEPT` (rule R197): the three candidates the spec
names, and one left uninterpreted, which stands for every other instance. -/
inductive Mmc1Gate where
  | literal | inverted | all | uninterpreted
  deriving DecidableEq, Repr

/-- The instance of the open parameter `MIX_ARITH` (rules R6, R155): exact arithmetic, or the arithmetic
of an implementation. Which numerics record each stands for is said in Mixer.lean: a record of functions
is no data, so the configuration names it. -/
inductive MixArith where
  | exact | implementation
  deriving DecidableEq, Repr

/-- The two pulse channels, each with a sweep unit (rule R40). -/
inductive PulseChannel where
  | p1 | p2
  deriving DecidableEq, Repr

/-- A value of the mixer's sample type (rules R6, R155): a real number, or one of the values of an
implementation's arithmetic that are none (an infinity, a NaN), each under a code. -/
inductive Sample where
  | real (value : Rat)
  | special (code : Nat)
  deriving DecidableEq, Repr, Inhabited

/-- A numerics record (rule R6): "add, divide, multiply over the sample type". `ofRat` is how an operand
or a literal of the formulas stands in the type, `isZero` the test of rule R153. -/
structure Numerics (α : Type) where
  ofRat : Rat → α
  isZero : α → Bool
  add : α → α → α
  div : α → α → α
  mul : α → α → α

/-- The state of one sweep unit (rule R40). The widths are not in the spec (log 8). `mute` is the unit's
own bit, as its last clock or `ApuReset` left it; the flag that leaves the block is `State.sweepMuted`
(rules R120, R135). -/
structure SweepState where
  enabled : Bool
  negate : Bool
  shift : Nat
  period : Nat
  timer : Nat
  change : Nat
  mute : Bool
  deriving DecidableEq, Repr, Inhabited

/-- The operands of `Mix` beside the transaction word: four samples and four user-enable flags, true
meaning audible (rule R150). The spec's reals are rationals here (rule R155). -/
structure MixOperands where
  p1 : Rat
  p2 : Rat
  t : Rat
  n : Rat
  uP1 : Bool
  uP2 : Bool
  uT : Bool
  uN : Bool
  deriving DecidableEq, Repr

/-- The contents of one backing array (rule R45): pairs of offset and byte, offsets rising, no entry
with the byte an unlisted offset reads as (log 4). -/
abbrev Machine.Memory := List Host.Cell

/-- The rows of rule R6's table other than `mapperID` and the contents of the three arrays. `SENTINEL` is
held by its distance above the largest array, so that no configuration has one that is an offset (log
12). -/
structure Params where
  prgBanks : Nat
  chrBanks : Nat
  hwMirror : HwMirror
  battery : Bool
  sentinelAbove : Nat
  prgWritable : Bool
  mmc1Accept : Mmc1Gate
  latchReset0 : Latch
  latchReset1 : Latch
  mixArith : MixArith
  lengthTable : Vector Byte 32
  deriving DecidableEq, Repr

/-- The record `Cfg` of rule R6: `mapperID`, the parameters, `PRG`, the initial `CHR` and `SRAM_INIT`. It
is an argument of the step function `blockStep` and no part of the block's state. -/
structure Cfg extends Params where
  mapperId : MapperId
  prg : Machine.Memory
  chr : Machine.Memory
  sramInit : Machine.Memory
  deriving DecidableEq, Repr

/-- `PRG_SIZE`, in bytes (rule R6). -/
def Params.prgSize (p : Params) : Nat := p.prgBanks * 0x4000

/-- `CHR_SIZE`, in bytes (rule R6). -/
def Params.chrSize (p : Params) : Nat := max p.chrBanks 1 * 0x2000

/-- The size of the static RAM region: "a fixed 32 KiB" (rules R6, R33). -/
def Cfg.sramSize : Nat := 0x8000

/-- `SENTINEL`: "a value distinct from every array offset" (rules R6, R160). Every number that is no
offset of the three arrays is the sentinel of some configuration (log 12). -/
def Cfg.sentinel (c : Cfg) : Nat := max c.prgSize (max c.chrSize Cfg.sramSize) + c.sentinelAbove

/-- FREE VALUE: the answer of an `MMC1_ACCEPT` that is none of the three named candidates (rule
R197). -/
opaque Config.mmc1AcceptUninterpreted : Nat → Nat → Bool

/-- FREE VALUES: the addition, division and multiplication of an implementation's arithmetic (rules R6,
R155). -/
opaque Config.mixAdd : Sample → Sample → Sample
opaque Config.mixDiv : Sample → Sample → Sample
opaque Config.mixMul : Sample → Sample → Sample

/-- FREE VALUE: what `Mix` answers outside the domain of rule R154, where the spec states no result
(log 9). -/
opaque Config.mixOutsideDomain : MixOperands → Sample

/-- FREE VALUE: `SweepClock`, uninterpreted (rule R134): from the unit's state, the parameter bytes
handed to it since its last clock (rule R138) and the pulse timer's reload value, to the unit's state and
the reload value after the half-frame clock. -/
opaque Config.sweepClock : PulseChannel → SweepState → List Byte → Nat → SweepState × Nat

end Sys2Proof
end

