-- ==== Sys2Proof/Syntax.lean ====
section
/-! DEFINITION. The operations of the block: one constructor per row of the opcode map (rule R98),
with the fields the row's format cuts out of the word (rules R94, R95). Bits a rule ignores are no
field. The sideband operands (the CPU step of rule R192, the samples of rule R150) are carried beside
the word, in State. -/

namespace Sys2Proof

/-- The operations (rule R9), one per row of the opcode table. -/
inductive Instr where
  -- decoder table: mapper 0
  /-- `M0.CPU_READ` (rule R182). -/
  | m0CpuRead (within : BitVec 15)
  /-- `M0.CPU_WRITE` (rule R183). -/
  | m0CpuWrite (within : BitVec 15) (value : Byte)
  /-- `M0.PPU_READ` (rule R184). -/
  | m0PpuRead (within : BitVec 13)
  /-- `M0.PPU_WRITE` (rule R185). -/
  | m0PpuWrite (within : BitVec 13) (value : Byte)
  -- decoder table: mapper 1
  /-- `M1.SRAM_READ` (rule R193). -/
  | m1SramRead (index : BitVec 13)
  /-- `M1.SRAM_WRITE` (rule R194). -/
  | m1SramWrite (index : BitVec 13) (value : Byte)
  /-- `M1.SERIAL_RESET` (rule R196). -/
  | m1SerialReset
  /-- `M1.SERIAL_SHIFT` (rule R195). -/
  | m1SerialShift (bit : BitVec 1) (target : BitVec 2)
  /-- `M1.CPU_READ` (rule R198). -/
  | m1CpuRead (within : BitVec 15)
  /-- `M1.PPU_READ` (rule R200). -/
  | m1PpuRead (within : BitVec 13)
  /-- `M1.PPU_WRITE` (rule R201). -/
  | m1PpuWrite (within : BitVec 13) (value : Byte)
  -- decoder table: mapper 2
  /-- `M2.BANK_SELECT` (rule R212). -/
  | m2BankSelect (bank : BitVec 4)
  /-- `M2.CPU_READ` (rule R213). -/
  | m2CpuRead (within : BitVec 15)
  /-- `M2.PPU_READ` (rule R214). -/
  | m2PpuRead (within : BitVec 13)
  /-- `M2.PPU_WRITE` (rule R215). -/
  | m2PpuWrite (within : BitVec 13) (value : Byte)
  -- decoder table: mapper 3
  /-- `M3.CHR_SELECT` (rule R222). -/
  | m3ChrSelect (bank : BitVec 2)
  /-- `M3.CPU_READ` (rule R223). -/
  | m3CpuRead (within : BitVec 15)
  /-- `M3.PPU_READ` (rule R224). -/
  | m3PpuRead (within : BitVec 13)
  /-- `M3.PPU_WRITE` (rule R225). -/
  | m3PpuWrite (within : BitVec 13) (value : Byte)
  -- decoder table: mapper 4
  /-- `M4.SRAM_READ` (rule R232). -/
  | m4SramRead (index : BitVec 13)
  /-- `M4.SRAM_WRITE` (rule R233). -/
  | m4SramWrite (index : BitVec 13) (value : Byte)
  /-- `M4.BANK_SELECT` (rule R234). -/
  | m4BankSelect (chrInv prgMode : Bool) (target : BitVec 3)
  /-- `M4.BANK_DATA` (rule R235). -/
  | m4BankData (value : Byte)
  /-- `M4.MIRROR` (rule R236). -/
  | m4Mirror (horizontal : Bool)
  /-- `M4.RAM_PROTECT` (rule R237). -/
  | m4RamProtect
  /-- `M4.IRQ_LATCH` (rule R238). -/
  | m4IrqLatch (reload : Byte)
  /-- `M4.IRQ_RELOAD` (rule R239). -/
  | m4IrqReload
  /-- `M4.IRQ_DISABLE` (rule R240). -/
  | m4IrqDisable
  /-- `M4.IRQ_ENABLE` (rule R241). -/
  | m4IrqEnable
  /-- `M4.CPU_READ` (rule R242). -/
  | m4CpuRead (within : BitVec 15)
  /-- `M4.PPU_READ` (rule R243). -/
  | m4PpuRead (within : BitVec 13)
  /-- `M4.PPU_WRITE` (rule R244). -/
  | m4PpuWrite (within : BitVec 13) (value : Byte)
  -- decoder table: mapper 9
  /-- `M9.CPU_READ` (rule R262). -/
  | m9CpuRead (within : BitVec 15)
  /-- `M9.NOP_WRITE` (rule R270). -/
  | m9NopWrite
  /-- `M9.PRG_SELECT` (rule R263). -/
  | m9PrgSelect (bank : BitVec 4)
  /-- `M9.CHR_FD0` (rule R264). -/
  | m9ChrFd0 (bank : BitVec 5)
  /-- `M9.CHR_FE0` (rule R265). -/
  | m9ChrFe0 (bank : BitVec 5)
  /-- `M9.CHR_FD1` (rule R266). -/
  | m9ChrFd1 (bank : BitVec 5)
  /-- `M9.CHR_FE1` (rule R267). -/
  | m9ChrFe1 (bank : BitVec 5)
  /-- `M9.MIRROR` (rule R269). -/
  | m9Mirror (horizontal : Bool)
  /-- `M9.PPU_READ_FD0` (rule R268). -/
  | m9PpuReadFd0 (low : BitVec 4)
  /-- `M9.PPU_READ_FE0` (rule R268). -/
  | m9PpuReadFe0 (low : BitVec 4)
  /-- `M9.PPU_READ_FD1` (rule R268). -/
  | m9PpuReadFd1 (low : BitVec 4)
  /-- `M9.PPU_READ_FE1` (rule R268). -/
  | m9PpuReadFe1 (low : BitVec 4)
  /-- `M9.PPU_READ` (rule R268). -/
  | m9PpuRead (within : BitVec 13)
  /-- `M9.PPU_WRITE` (rule R271). -/
  | m9PpuWrite (within : BitVec 13) (value : Byte)
  -- decoder table: mapper 0 events
  /-- `M0.RESET` (rule R186). -/
  | m0Reset
  /-- `M0.MIRROR_Q` (rule R187). -/
  | m0MirrorQ
  /-- `M0.SCANLINE` (rule R170). -/
  | m0Scanline
  /-- `M0.IRQ_STATE` (rule R170). -/
  | m0IrqState
  /-- `M0.IRQ_CLEAR` (rule R170). -/
  | m0IrqClear
  -- decoder table: mapper 1 events
  /-- `M1.RESET` (rule R203). -/
  | m1Reset
  /-- `M1.MIRROR_Q` (rule R202). -/
  | m1MirrorQ
  /-- `M1.SCANLINE` (rule R170). -/
  | m1Scanline
  /-- `M1.IRQ_STATE` (rule R170). -/
  | m1IrqState
  /-- `M1.IRQ_CLEAR` (rule R170). -/
  | m1IrqClear
  -- decoder table: mapper 2 events
  /-- `M2.RESET` (rule R216). -/
  | m2Reset
  /-- `M2.MIRROR_Q` (rule R217). -/
  | m2MirrorQ
  /-- `M2.SCANLINE` (rule R170). -/
  | m2Scanline
  /-- `M2.IRQ_STATE` (rule R170). -/
  | m2IrqState
  /-- `M2.IRQ_CLEAR` (rule R170). -/
  | m2IrqClear
  -- decoder table: mapper 3 events
  /-- `M3.RESET` (rule R226). -/
  | m3Reset
  /-- `M3.MIRROR_Q` (rule R227). -/
  | m3MirrorQ
  /-- `M3.SCANLINE` (rule R170). -/
  | m3Scanline
  /-- `M3.IRQ_STATE` (rule R170). -/
  | m3IrqState
  /-- `M3.IRQ_CLEAR` (rule R170). -/
  | m3IrqClear
  -- decoder table: mapper 4 events
  /-- `M4.RESET` (rule R248). -/
  | m4Reset
  /-- `M4.MIRROR_Q` (rule R249). -/
  | m4MirrorQ
  /-- `M4.SCANLINE` (rule R245). -/
  | m4Scanline
  /-- `M4.IRQ_STATE` (rule R246). -/
  | m4IrqState
  /-- `M4.IRQ_CLEAR` (rule R247). -/
  | m4IrqClear
  -- decoder table: mapper 9 events
  /-- `M9.RESET` (rule R273). -/
  | m9Reset
  /-- `M9.MIRROR_Q` (rule R272). -/
  | m9MirrorQ
  /-- `M9.SCANLINE` (rule R170). -/
  | m9Scanline
  /-- `M9.IRQ_STATE` (rule R170). -/
  | m9IrqState
  /-- `M9.IRQ_CLEAR` (rule R170). -/
  | m9IrqClear
  -- decoder table: APU
  /-- `APU.P1_ENV` (rule R124). -/
  | apuP1Env (duty : BitVec 2) (halt constant : Bool) (volume : BitVec 4)
  /-- `APU.P1_SWEEP` (rule R138). -/
  | apuP1Sweep (value : Byte)
  /-- `APU.P1_TLO` (rule R139). -/
  | apuP1Tlo (value : Byte)
  /-- `APU.P1_LEN` (rule R127). -/
  | apuP1Len (index : BitVec 5) (timerHigh : BitVec 3)
  /-- `APU.P2_ENV` (rule R125). -/
  | apuP2Env (duty : BitVec 2) (halt constant : Bool) (volume : BitVec 4)
  /-- `APU.P2_SWEEP` (rule R138). -/
  | apuP2Sweep (value : Byte)
  /-- `APU.P2_TLO` (rule R139). -/
  | apuP2Tlo (value : Byte)
  /-- `APU.P2_LEN` (rule R128). -/
  | apuP2Len (index : BitVec 5) (timerHigh : BitVec 3)
  /-- `APU.TRI_LINEAR` (rule R132). -/
  | apuTriLinear (halt : Bool) (reload : BitVec 7)
  /-- `APU.UNUSED_4009` (rule R141). -/
  | apuUnused4009 (value : Byte)
  /-- `APU.TRI_TLO` (rule R139). -/
  | apuTriTlo (value : Byte)
  /-- `APU.TRI_LEN` (rule R129). -/
  | apuTriLen (index : BitVec 5) (timerHigh : BitVec 3)
  /-- `APU.NOI_ENV` (rule R126). -/
  | apuNoiEnv (halt constant : Bool) (volume : BitVec 4)
  /-- `APU.UNUSED_400D` (rule R141). -/
  | apuUnused400d (value : Byte)
  /-- `APU.NOI_PERIOD` (rule R140). -/
  | apuNoiPeriod (value : Byte)
  /-- `APU.NOI_LEN` (rule R130). -/
  | apuNoiLen (index : BitVec 5)
  /-- `APU.DMC0` (rule R142). -/
  | apuDmc0 (value : Byte)
  /-- `APU.DMC1` (rule R142). -/
  | apuDmc1 (value : Byte)
  /-- `APU.DMC2` (rule R142). -/
  | apuDmc2 (value : Byte)
  /-- `APU.DMC3` (rule R142). -/
  | apuDmc3 (value : Byte)
  /-- `APU.STATUS` (rule R136). -/
  | apuStatus (dmc noise triangle pulse2 pulse1 : Bool)
  /-- `APU.FRAME` (rule R137). -/
  | apuFrame (value : Byte)
  /-- `SYS.TICK` (rule R111). -/
  | sysTick
  /-- `APU.TICK` (rule R112). -/
  | apuTick
  /-- `APU.QUARTER` (rule R113). -/
  | apuQuarter
  /-- `APU.HALF` (rule R114). -/
  | apuHalf
  /-- `APU.MIX` (rule R150). -/
  | apuMix
  /-- `APU.RESET` (rule R301). -/
  | apuReset
  deriving DecidableEq, Repr

/-- The row's mnemonic in the opcode table (rule R98). -/
def Instr.mnemonic : Instr → String
  | .m0CpuRead _ => "M0.CPU_READ"
  | .m0CpuWrite _ _ => "M0.CPU_WRITE"
  | .m0PpuRead _ => "M0.PPU_READ"
  | .m0PpuWrite _ _ => "M0.PPU_WRITE"
  | .m1SramRead _ => "M1.SRAM_READ"
  | .m1SramWrite _ _ => "M1.SRAM_WRITE"
  | .m1SerialReset => "M1.SERIAL_RESET"
  | .m1SerialShift _ _ => "M1.SERIAL_SHIFT"
  | .m1CpuRead _ => "M1.CPU_READ"
  | .m1PpuRead _ => "M1.PPU_READ"
  | .m1PpuWrite _ _ => "M1.PPU_WRITE"
  | .m2BankSelect _ => "M2.BANK_SELECT"
  | .m2CpuRead _ => "M2.CPU_READ"
  | .m2PpuRead _ => "M2.PPU_READ"
  | .m2PpuWrite _ _ => "M2.PPU_WRITE"
  | .m3ChrSelect _ => "M3.CHR_SELECT"
  | .m3CpuRead _ => "M3.CPU_READ"
  | .m3PpuRead _ => "M3.PPU_READ"
  | .m3PpuWrite _ _ => "M3.PPU_WRITE"
  | .m4SramRead _ => "M4.SRAM_READ"
  | .m4SramWrite _ _ => "M4.SRAM_WRITE"
  | .m4BankSelect _ _ _ => "M4.BANK_SELECT"
  | .m4BankData _ => "M4.BANK_DATA"
  | .m4Mirror _ => "M4.MIRROR"
  | .m4RamProtect => "M4.RAM_PROTECT"
  | .m4IrqLatch _ => "M4.IRQ_LATCH"
  | .m4IrqReload => "M4.IRQ_RELOAD"
  | .m4IrqDisable => "M4.IRQ_DISABLE"
  | .m4IrqEnable => "M4.IRQ_ENABLE"
  | .m4CpuRead _ => "M4.CPU_READ"
  | .m4PpuRead _ => "M4.PPU_READ"
  | .m4PpuWrite _ _ => "M4.PPU_WRITE"
  | .m9CpuRead _ => "M9.CPU_READ"
  | .m9NopWrite => "M9.NOP_WRITE"
  | .m9PrgSelect _ => "M9.PRG_SELECT"
  | .m9ChrFd0 _ => "M9.CHR_FD0"
  | .m9ChrFe0 _ => "M9.CHR_FE0"
  | .m9ChrFd1 _ => "M9.CHR_FD1"
  | .m9ChrFe1 _ => "M9.CHR_FE1"
  | .m9Mirror _ => "M9.MIRROR"
  | .m9PpuReadFd0 _ => "M9.PPU_READ_FD0"
  | .m9PpuReadFe0 _ => "M9.PPU_READ_FE0"
  | .m9PpuReadFd1 _ => "M9.PPU_READ_FD1"
  | .m9PpuReadFe1 _ => "M9.PPU_READ_FE1"
  | .m9PpuRead _ => "M9.PPU_READ"
  | .m9PpuWrite _ _ => "M9.PPU_WRITE"
  | .m0Reset => "M0.RESET"
  | .m0MirrorQ => "M0.MIRROR_Q"
  | .m0Scanline => "M0.SCANLINE"
  | .m0IrqState => "M0.IRQ_STATE"
  | .m0IrqClear => "M0.IRQ_CLEAR"
  | .m1Reset => "M1.RESET"
  | .m1MirrorQ => "M1.MIRROR_Q"
  | .m1Scanline => "M1.SCANLINE"
  | .m1IrqState => "M1.IRQ_STATE"
  | .m1IrqClear => "M1.IRQ_CLEAR"
  | .m2Reset => "M2.RESET"
  | .m2MirrorQ => "M2.MIRROR_Q"
  | .m2Scanline => "M2.SCANLINE"
  | .m2IrqState => "M2.IRQ_STATE"
  | .m2IrqClear => "M2.IRQ_CLEAR"
  | .m3Reset => "M3.RESET"
  | .m3MirrorQ => "M3.MIRROR_Q"
  | .m3Scanline => "M3.SCANLINE"
  | .m3IrqState => "M3.IRQ_STATE"
  | .m3IrqClear => "M3.IRQ_CLEAR"
  | .m4Reset => "M4.RESET"
  | .m4MirrorQ => "M4.MIRROR_Q"
  | .m4Scanline => "M4.SCANLINE"
  | .m4IrqState => "M4.IRQ_STATE"
  | .m4IrqClear => "M4.IRQ_CLEAR"
  | .m9Reset => "M9.RESET"
  | .m9MirrorQ => "M9.MIRROR_Q"
  | .m9Scanline => "M9.SCANLINE"
  | .m9IrqState => "M9.IRQ_STATE"
  | .m9IrqClear => "M9.IRQ_CLEAR"
  | .apuP1Env _ _ _ _ => "APU.P1_ENV"
  | .apuP1Sweep _ => "APU.P1_SWEEP"
  | .apuP1Tlo _ => "APU.P1_TLO"
  | .apuP1Len _ _ => "APU.P1_LEN"
  | .apuP2Env _ _ _ _ => "APU.P2_ENV"
  | .apuP2Sweep _ => "APU.P2_SWEEP"
  | .apuP2Tlo _ => "APU.P2_TLO"
  | .apuP2Len _ _ => "APU.P2_LEN"
  | .apuTriLinear _ _ => "APU.TRI_LINEAR"
  | .apuUnused4009 _ => "APU.UNUSED_4009"
  | .apuTriTlo _ => "APU.TRI_TLO"
  | .apuTriLen _ _ => "APU.TRI_LEN"
  | .apuNoiEnv _ _ _ => "APU.NOI_ENV"
  | .apuUnused400d _ => "APU.UNUSED_400D"
  | .apuNoiPeriod _ => "APU.NOI_PERIOD"
  | .apuNoiLen _ => "APU.NOI_LEN"
  | .apuDmc0 _ => "APU.DMC0"
  | .apuDmc1 _ => "APU.DMC1"
  | .apuDmc2 _ => "APU.DMC2"
  | .apuDmc3 _ => "APU.DMC3"
  | .apuStatus _ _ _ _ _ => "APU.STATUS"
  | .apuFrame _ => "APU.FRAME"
  | .sysTick => "SYS.TICK"
  | .apuTick => "APU.TICK"
  | .apuQuarter => "APU.QUARTER"
  | .apuHalf => "APU.HALF"
  | .apuMix => "APU.MIX"
  | .apuReset => "APU.RESET"

/-- The mapper whose decoder table holds the operation; none for the APU table, which serves any
mapper (rules R92, R98). -/
def Instr.mapper : Instr → Option MapperId
  | .m0CpuRead _ => some .m0
  | .m0CpuWrite _ _ => some .m0
  | .m0PpuRead _ => some .m0
  | .m0PpuWrite _ _ => some .m0
  | .m1SramRead _ => some .m1
  | .m1SramWrite _ _ => some .m1
  | .m1SerialReset => some .m1
  | .m1SerialShift _ _ => some .m1
  | .m1CpuRead _ => some .m1
  | .m1PpuRead _ => some .m1
  | .m1PpuWrite _ _ => some .m1
  | .m2BankSelect _ => some .m2
  | .m2CpuRead _ => some .m2
  | .m2PpuRead _ => some .m2
  | .m2PpuWrite _ _ => some .m2
  | .m3ChrSelect _ => some .m3
  | .m3CpuRead _ => some .m3
  | .m3PpuRead _ => some .m3
  | .m3PpuWrite _ _ => some .m3
  | .m4SramRead _ => some .m4
  | .m4SramWrite _ _ => some .m4
  | .m4BankSelect _ _ _ => some .m4
  | .m4BankData _ => some .m4
  | .m4Mirror _ => some .m4
  | .m4RamProtect => some .m4
  | .m4IrqLatch _ => some .m4
  | .m4IrqReload => some .m4
  | .m4IrqDisable => some .m4
  | .m4IrqEnable => some .m4
  | .m4CpuRead _ => some .m4
  | .m4PpuRead _ => some .m4
  | .m4PpuWrite _ _ => some .m4
  | .m9CpuRead _ => some .m9
  | .m9NopWrite => some .m9
  | .m9PrgSelect _ => some .m9
  | .m9ChrFd0 _ => some .m9
  | .m9ChrFe0 _ => some .m9
  | .m9ChrFd1 _ => some .m9
  | .m9ChrFe1 _ => some .m9
  | .m9Mirror _ => some .m9
  | .m9PpuReadFd0 _ => some .m9
  | .m9PpuReadFe0 _ => some .m9
  | .m9PpuReadFd1 _ => some .m9
  | .m9PpuReadFe1 _ => some .m9
  | .m9PpuRead _ => some .m9
  | .m9PpuWrite _ _ => some .m9
  | .m0Reset => some .m0
  | .m0MirrorQ => some .m0
  | .m0Scanline => some .m0
  | .m0IrqState => some .m0
  | .m0IrqClear => some .m0
  | .m1Reset => some .m1
  | .m1MirrorQ => some .m1
  | .m1Scanline => some .m1
  | .m1IrqState => some .m1
  | .m1IrqClear => some .m1
  | .m2Reset => some .m2
  | .m2MirrorQ => some .m2
  | .m2Scanline => some .m2
  | .m2IrqState => some .m2
  | .m2IrqClear => some .m2
  | .m3Reset => some .m3
  | .m3MirrorQ => some .m3
  | .m3Scanline => some .m3
  | .m3IrqState => some .m3
  | .m3IrqClear => some .m3
  | .m4Reset => some .m4
  | .m4MirrorQ => some .m4
  | .m4Scanline => some .m4
  | .m4IrqState => some .m4
  | .m4IrqClear => some .m4
  | .m9Reset => some .m9
  | .m9MirrorQ => some .m9
  | .m9Scanline => some .m9
  | .m9IrqState => some .m9
  | .m9IrqClear => some .m9
  | .apuP1Env _ _ _ _ => none
  | .apuP1Sweep _ => none
  | .apuP1Tlo _ => none
  | .apuP1Len _ _ => none
  | .apuP2Env _ _ _ _ => none
  | .apuP2Sweep _ => none
  | .apuP2Tlo _ => none
  | .apuP2Len _ _ => none
  | .apuTriLinear _ _ => none
  | .apuUnused4009 _ => none
  | .apuTriTlo _ => none
  | .apuTriLen _ _ => none
  | .apuNoiEnv _ _ _ => none
  | .apuUnused400d _ => none
  | .apuNoiPeriod _ => none
  | .apuNoiLen _ => none
  | .apuDmc0 _ => none
  | .apuDmc1 _ => none
  | .apuDmc2 _ => none
  | .apuDmc3 _ => none
  | .apuStatus _ _ _ _ _ => none
  | .apuFrame _ => none
  | .sysTick => none
  | .apuTick => none
  | .apuQuarter => none
  | .apuHalf => none
  | .apuMix => none
  | .apuReset => none

end Sys2Proof
end

