-- ==== Sys2Proof/WellFormed.lean ====
section
/-! DEFINITION. Which terms of Instr an encoding stands for. Every field's width is in its type; the
one relation left is that the general mapper 9 read is tried after the four latch rows. -/

namespace Sys2Proof

/-- The four 16-address ranges that move a latch of mapper 9, by bits 12 to 4 of the PPU address
(rule R268). -/
def isSentinelRange (within : BitVec 13) : Bool :=
  let block := within.extractLsb' 4 9
  block == 0x0FD#9 || block == 0x0FE#9 || block == 0x1FD#9 || block == 0x1FE#9

/-- `M9.PPU_READ` is listed after the four latch rows and the first match wins (rule R93), so its
address is in none of their ranges. Every other term is well formed. -/
def Instr.wellFormed : Instr → Bool
  | .m9PpuRead within => !isSentinelRange within
  | _ => true

end Sys2Proof
end

