-- ==== Sys2Proof/Decode.lean ====
section
/-! DEFINITION. Decoding a transaction word (rules R90 to R97), total on every word, and the encoder
written from the same formats. The opcode map of rule R98 stands at the end as a table. -/

namespace Sys2Proof

/-- `TW[26:24]` (rule R90). -/
def Tw.kind (w : Tw) : BitVec 3 := w.extractLsb' 24 3

/-- `TW[23:8]` (rule R90). -/
def Tw.addr (w : Tw) : BitVec 16 := w.extractLsb' 8 16

/-- `TW[7:0]` (rule R90). -/
def Tw.data (w : Tw) : Byte := w.extractLsb' 0 8

/-- The word with the given `kind`, `addr` and `data` (rule R90). -/
def Tw.pack (kind : BitVec 3) (addr : BitVec 16) (data : Byte) : Tw := kind ++ addr ++ data

/-- Kind 0: a CPU read (rule R90). -/
def kindCpuRead : BitVec 3 := 0#3
/-- Kind 1: a CPU write (rule R90). -/
def kindCpuWrite : BitVec 3 := 1#3
/-- Kind 2: a PPU read (rule R90). -/
def kindPpuRead : BitVec 3 := 2#3
/-- Kind 3: a PPU write (rule R90). -/
def kindPpuWrite : BitVec 3 := 3#3
/-- Kind 4: an event, its number in `data` (rules R90, R91). -/
def kindEvent : BitVec 3 := 4#3

/-- Why a word is no operation (rule R97). -/
inductive Reject where
  /-- A bus word that matches no row: the answer is NotClaimed (rule R97 (b), (c)). -/
  | notClaimed
  /-- A word the environment never generates: kinds 5 to 7, and events with no row (rule R97 (a)). -/
  | neverGenerated
  deriving DecidableEq, Repr

/-! ### The mapper tables -/

/-- `addr[15]` is set: CPU $8000-$FFFF. -/
def isRomAddr (addr : BitVec 16) : Bool := addr.extractLsb' 15 1 == 1#1

/-- `addr[15:13]` is 3: CPU $6000-$7FFF (rules R193, R232). -/
def isSramAddr (addr : BitVec 16) : Bool := addr.extractLsb' 13 3 == 3#3

/-- `addr[15:13]` is 0: PPU $0000-$1FFF (rule R67). -/
def isPatternAddr (addr : BitVec 16) : Bool := addr.extractLsb' 13 3 == 0#3

/-- The CPU-read rows of a mapper's table (rules R66, R98). -/
def decodeCpuRead (m : MapperId) (addr : BitVec 16) : Option Instr :=
  if isRomAddr addr then
    let within := addr.extractLsb' 0 15
    match m with
    | .m0 => some (.m0CpuRead within)
    | .m1 => some (.m1CpuRead within)
    | .m2 => some (.m2CpuRead within)
    | .m3 => some (.m3CpuRead within)
    | .m4 => some (.m4CpuRead within)
    | .m9 => some (.m9CpuRead within)
  else if isSramAddr addr then
    let index := addr.extractLsb' 0 13
    match m with
    | .m1 => some (.m1SramRead index)
    | .m4 => some (.m4SramRead index)
    | _ => none
  else none

/-- The register rows of mapper 4, by `addr[14:13]` and `addr[0]` (rule R231). -/
def decodeM4Write (addr : BitVec 16) (data : Byte) : Instr :=
  match (addr.extractLsb' 13 2).toNat, addr.getLsbD 0 with
  | 0, false => .m4BankSelect (data.getLsbD 7) (data.getLsbD 6) (data.extractLsb' 0 3)
  | 0, true => .m4BankData data
  | 1, false => .m4Mirror (data.getLsbD 0)
  | 1, true => .m4RamProtect
  | 2, false => .m4IrqLatch data
  | 2, true => .m4IrqReload
  | _, false => .m4IrqDisable
  | _, true => .m4IrqEnable

/-- The register rows of mapper 9, by `addr[15:12]` (rule R261). -/
def decodeM9Write (addr : BitVec 16) (data : Byte) : Instr :=
  match (addr.extractLsb' 12 3).toNat with
  | 2 => .m9PrgSelect (data.extractLsb' 0 4)
  | 3 => .m9ChrFd0 (data.extractLsb' 0 5)
  | 4 => .m9ChrFe0 (data.extractLsb' 0 5)
  | 5 => .m9ChrFd1 (data.extractLsb' 0 5)
  | 6 => .m9ChrFe1 (data.extractLsb' 0 5)
  | 7 => .m9Mirror (data.getLsbD 0)
  | _ => .m9NopWrite

/-- The CPU-write rows of a mapper's table (rules R66, R94, R98). -/
def decodeCpuWrite (m : MapperId) (addr : BitVec 16) (data : Byte) : Option Instr :=
  if isRomAddr addr then
    match m with
    | .m0 => some (.m0CpuWrite (addr.extractLsb' 0 15) data)
    | .m1 =>
      if data.getLsbD 7 then some .m1SerialReset
      else some (.m1SerialShift (data.extractLsb' 0 1) (addr.extractLsb' 13 2))
    | .m2 => some (.m2BankSelect (data.extractLsb' 0 4))
    | .m3 => some (.m3ChrSelect (data.extractLsb' 0 2))
    | .m4 => some (decodeM4Write addr data)
    | .m9 => some (decodeM9Write addr data)
  else if isSramAddr addr then
    let index := addr.extractLsb' 0 13
    match m with
    | .m1 => some (.m1SramWrite index data)
    | .m4 => some (.m4SramWrite index data)
    | _ => none
  else none

/-- The PPU-read rows of mapper 9: the four latch rows come before the general row (rule R93). -/
def decodeM9PpuRead (within : BitVec 13) : Instr :=
  let low := within.extractLsb' 0 4
  if within.extractLsb' 4 9 = 0x0FD#9 then .m9PpuReadFd0 low
  else if within.extractLsb' 4 9 = 0x0FE#9 then .m9PpuReadFe0 low
  else if within.extractLsb' 4 9 = 0x1FD#9 then .m9PpuReadFd1 low
  else if within.extractLsb' 4 9 = 0x1FE#9 then .m9PpuReadFe1 low
  else .m9PpuRead within

/-- The PPU-read rows of a mapper's table (rules R67, R98). -/
def decodePpuRead (m : MapperId) (addr : BitVec 16) : Option Instr :=
  if isPatternAddr addr then
    let within := addr.extractLsb' 0 13
    match m with
    | .m0 => some (.m0PpuRead within)
    | .m1 => some (.m1PpuRead within)
    | .m2 => some (.m2PpuRead within)
    | .m3 => some (.m3PpuRead within)
    | .m4 => some (.m4PpuRead within)
    | .m9 => some (decodeM9PpuRead within)
  else none

/-- The PPU-write rows of a mapper's table (rules R67, R98). -/
def decodePpuWrite (m : MapperId) (addr : BitVec 16) (data : Byte) : Option Instr :=
  if isPatternAddr addr then
    let within := addr.extractLsb' 0 13
    match m with
    | .m0 => some (.m0PpuWrite within data)
    | .m1 => some (.m1PpuWrite within data)
    | .m2 => some (.m2PpuWrite within data)
    | .m3 => some (.m3PpuWrite within data)
    | .m4 => some (.m4PpuWrite within data)
    | .m9 => some (.m9PpuWrite within data)
  else none

/-- The mapper events, numbers 0 to 4 (rules R91, R98). -/
def decodeMapperEvent (m : MapperId) (number : Byte) : Option Instr :=
  match number.toNat with
  | 0 =>
    match m with
    | .m0 => some .m0Reset
    | .m1 => some .m1Reset
    | .m2 => some .m2Reset
    | .m3 => some .m3Reset
    | .m4 => some .m4Reset
    | .m9 => some .m9Reset
  | 1 =>
    match m with
    | .m0 => some .m0Scanline
    | .m1 => some .m1Scanline
    | .m2 => some .m2Scanline
    | .m3 => some .m3Scanline
    | .m4 => some .m4Scanline
    | .m9 => some .m9Scanline
  | 2 =>
    match m with
    | .m0 => some .m0IrqState
    | .m1 => some .m1IrqState
    | .m2 => some .m2IrqState
    | .m3 => some .m3IrqState
    | .m4 => some .m4IrqState
    | .m9 => some .m9IrqState
  | 3 =>
    match m with
    | .m0 => some .m0IrqClear
    | .m1 => some .m1IrqClear
    | .m2 => some .m2IrqClear
    | .m3 => some .m3IrqClear
    | .m4 => some .m4IrqClear
    | .m9 => some .m9IrqClear
  | 4 =>
    match m with
    | .m0 => some .m0MirrorQ
    | .m1 => some .m1MirrorQ
    | .m2 => some .m2MirrorQ
    | .m3 => some .m3MirrorQ
    | .m4 => some .m4MirrorQ
    | .m9 => some .m9MirrorQ
  | _ => none

/-- The table of the selected mapper (rules R92, R98). -/
def decodeMapper (m : MapperId) (w : Tw) : Option Instr :=
  match w.kind.toNat with
  | 0 => decodeCpuRead m w.addr
  | 1 => decodeCpuWrite m w.addr w.data
  | 2 => decodePpuRead m w.addr
  | 3 => decodePpuWrite m w.addr w.data
  | 4 => if w.addr = 0#16 then decodeMapperEvent m w.data else none
  | _ => none

/-! ### The APU table -/

/-- The APU register writes, CPU $4000-$4013, $4015, $4017 (rules R95, R98). -/
def decodeApuWrite (addr : BitVec 16) (data : Byte) : Option Instr :=
  match addr.toNat with
  | 0x4000 => some (.apuP1Env (data.extractLsb' 6 2) (data.getLsbD 5) (data.getLsbD 4) (data.extractLsb' 0 4))
  | 0x4001 => some (.apuP1Sweep data)
  | 0x4002 => some (.apuP1Tlo data)
  | 0x4003 => some (.apuP1Len (data.extractLsb' 3 5) (data.extractLsb' 0 3))
  | 0x4004 => some (.apuP2Env (data.extractLsb' 6 2) (data.getLsbD 5) (data.getLsbD 4) (data.extractLsb' 0 4))
  | 0x4005 => some (.apuP2Sweep data)
  | 0x4006 => some (.apuP2Tlo data)
  | 0x4007 => some (.apuP2Len (data.extractLsb' 3 5) (data.extractLsb' 0 3))
  | 0x4008 => some (.apuTriLinear (data.getLsbD 7) (data.extractLsb' 0 7))
  | 0x4009 => some (.apuUnused4009 data)
  | 0x400A => some (.apuTriTlo data)
  | 0x400B => some (.apuTriLen (data.extractLsb' 3 5) (data.extractLsb' 0 3))
  | 0x400C => some (.apuNoiEnv (data.getLsbD 5) (data.getLsbD 4) (data.extractLsb' 0 4))
  | 0x400D => some (.apuUnused400d data)
  | 0x400E => some (.apuNoiPeriod data)
  | 0x400F => some (.apuNoiLen (data.extractLsb' 3 5))
  | 0x4010 => some (.apuDmc0 data)
  | 0x4011 => some (.apuDmc1 data)
  | 0x4012 => some (.apuDmc2 data)
  | 0x4013 => some (.apuDmc3 data)
  | 0x4015 => some (.apuStatus (data.getLsbD 4) (data.getLsbD 3) (data.getLsbD 2) (data.getLsbD 1) (data.getLsbD 0))
  | 0x4017 => some (.apuFrame data)
  | _ => none

/-- The APU events, numbers 5 to 10 (rules R91, R98). -/
def decodeApuEvent (number : Byte) : Option Instr :=
  match number.toNat with
  | 5 => some .sysTick
  | 6 => some .apuTick
  | 7 => some .apuQuarter
  | 8 => some .apuHalf
  | 9 => some .apuMix
  | 10 => some .apuReset
  | _ => none

/-- The APU table, which serves any mapper (rules R92, R98). -/
def decodeApu (w : Tw) : Option Instr :=
  match w.kind.toNat with
  | 1 => decodeApuWrite w.addr w.data
  | 4 => if w.addr = 0#16 then decodeApuEvent w.data else none
  | _ => none

/-! ### The decoder -/

/-- Which of the two reasons of rule R97 a word with no row falls under. -/
def rejectReason (w : Tw) : Reject :=
  if w.kind.toNat < 4 then .notClaimed else .neverGenerated

/-- Decoding a word on a block with mapper `m`: the mapper's table first, then the APU table (rule
R92); a word with no row is no operation (rule R97). -/
def decode (m : MapperId) (w : Tw) : Except Reject Instr :=
  match decodeMapper m w with
  | some i => .ok i
  | none =>
    match decodeApu w with
    | some i => .ok i
    | none => .error (rejectReason w)

/-- The table a word is read in when nothing says which mapper the block has: that of the cartridge
in `State.reset` (DESIGN CHOICE, log 3). -/
def defaultTable : MapperId := .m4

/-- The instruction the decoder reads from a word written as a number, on a block with the mapper of
`defaultTable`. The word's bits are numbered as the opcode table numbers them, which is rule R90's
numbering; bits above the 27th are no part of a word. -/
def decodeTableWord (nbits w : Nat) : Option Instr :=
  let bits := w % 2 ^ nbits
  if bits < 2 ^ 27 then (decode defaultTable (BitVec.ofNat 27 bits)).toOption else none

/-! ### The encoder -/

/-- `addr` of a CPU access in $8000-$FFFF. -/
def romAddr (within : BitVec 15) : BitVec 16 := 1#1 ++ within

/-- `addr` of a CPU access in $6000-$7FFF. -/
def sramAddr (index : BitVec 13) : BitVec 16 := 3#3 ++ index

/-- `addr` of a PPU access in $0000-$1FFF. -/
def patternAddr (within : BitVec 13) : BitVec 16 := 0#3 ++ within

/-- A CPU read (rule R90: `data` is 0). -/
def encodeCpuRead (addr : BitVec 16) : Tw := Tw.pack kindCpuRead addr 0#8

/-- A CPU write. -/
def encodeCpuWrite (addr : BitVec 16) (data : Byte) : Tw := Tw.pack kindCpuWrite addr data

/-- A PPU read (rule R90: `data` is 0). -/
def encodePpuRead (within : BitVec 13) : Tw := Tw.pack kindPpuRead (patternAddr within) 0#8

/-- A PPU write. -/
def encodePpuWrite (within : BitVec 13) (data : Byte) : Tw :=
  Tw.pack kindPpuWrite (patternAddr within) data

/-- An event (rules R90, R91: `addr` is 0). -/
def encodeEvent (number : Byte) : Tw := Tw.pack kindEvent 0#16 number

/-- The byte of format APU_ENV (rule R95). -/
def envByte (duty : BitVec 2) (halt constant : Bool) (volume : BitVec 4) : Byte :=
  duty ++ BitVec.ofBool halt ++ BitVec.ofBool constant ++ volume

/-- The byte of format APU_LEN (rule R95). -/
def lenByte (index : BitVec 5) (timerHigh : BitVec 3) : Byte := index ++ timerHigh

/-- The byte of format M4_SELECT, ignored bits 0 (rule R94). -/
def m4SelectByte (chrInv prgMode : Bool) (target : BitVec 3) : Byte :=
  BitVec.ofBool chrInv ++ BitVec.ofBool prgMode ++ 0#3 ++ target

/-- The byte of format MIRROR1, ignored bits 0 (rule R94). -/
def mirrorByte (horizontal : Bool) : Byte := 0#7 ++ BitVec.ofBool horizontal

/-- The byte of format APU_STATUS, ignored bits 0 (rule R95). -/
def statusByte (dmc noise triangle pulse2 pulse1 : Bool) : Byte :=
  0#3 ++ BitVec.ofBool dmc ++ BitVec.ofBool noise ++ BitVec.ofBool triangle ++
    BitVec.ofBool pulse2 ++ BitVec.ofBool pulse1

/-- The word of an instruction, every ignored bit 0 (rules R94, R95, R98). -/
def encode : Instr → Tw
  | .m0CpuRead within => encodeCpuRead (romAddr within)
  | .m0CpuWrite within value => encodeCpuWrite (romAddr within) value
  | .m0PpuRead within => encodePpuRead within
  | .m0PpuWrite within value => encodePpuWrite within value
  | .m1SramRead index => encodeCpuRead (sramAddr index)
  | .m1SramWrite index value => encodeCpuWrite (sramAddr index) value
  | .m1SerialReset => encodeCpuWrite 0x8000#16 0x80#8
  | .m1SerialShift bit target => encodeCpuWrite (1#1 ++ target ++ 0#13) (0#7 ++ bit)
  | .m1CpuRead within => encodeCpuRead (romAddr within)
  | .m1PpuRead within => encodePpuRead within
  | .m1PpuWrite within value => encodePpuWrite within value
  | .m2BankSelect bank => encodeCpuWrite 0x8000#16 (0#4 ++ bank)
  | .m2CpuRead within => encodeCpuRead (romAddr within)
  | .m2PpuRead within => encodePpuRead within
  | .m2PpuWrite within value => encodePpuWrite within value
  | .m3ChrSelect bank => encodeCpuWrite 0x8000#16 (0#6 ++ bank)
  | .m3CpuRead within => encodeCpuRead (romAddr within)
  | .m3PpuRead within => encodePpuRead within
  | .m3PpuWrite within value => encodePpuWrite within value
  | .m4SramRead index => encodeCpuRead (sramAddr index)
  | .m4SramWrite index value => encodeCpuWrite (sramAddr index) value
  | .m4BankSelect chrInv prgMode target => encodeCpuWrite 0x8000#16 (m4SelectByte chrInv prgMode target)
  | .m4BankData value => encodeCpuWrite 0x8001#16 value
  | .m4Mirror horizontal => encodeCpuWrite 0xA000#16 (mirrorByte horizontal)
  | .m4RamProtect => encodeCpuWrite 0xA001#16 0#8
  | .m4IrqLatch reload => encodeCpuWrite 0xC000#16 reload
  | .m4IrqReload => encodeCpuWrite 0xC001#16 0#8
  | .m4IrqDisable => encodeCpuWrite 0xE000#16 0#8
  | .m4IrqEnable => encodeCpuWrite 0xE001#16 0#8
  | .m4CpuRead within => encodeCpuRead (romAddr within)
  | .m4PpuRead within => encodePpuRead within
  | .m4PpuWrite within value => encodePpuWrite within value
  | .m9CpuRead within => encodeCpuRead (romAddr within)
  | .m9NopWrite => encodeCpuWrite 0x8000#16 0#8
  | .m9PrgSelect bank => encodeCpuWrite 0xA000#16 (0#4 ++ bank)
  | .m9ChrFd0 bank => encodeCpuWrite 0xB000#16 (0#3 ++ bank)
  | .m9ChrFe0 bank => encodeCpuWrite 0xC000#16 (0#3 ++ bank)
  | .m9ChrFd1 bank => encodeCpuWrite 0xD000#16 (0#3 ++ bank)
  | .m9ChrFe1 bank => encodeCpuWrite 0xE000#16 (0#3 ++ bank)
  | .m9Mirror horizontal => encodeCpuWrite 0xF000#16 (mirrorByte horizontal)
  | .m9PpuReadFd0 low => encodePpuRead (0x0FD#9 ++ low)
  | .m9PpuReadFe0 low => encodePpuRead (0x0FE#9 ++ low)
  | .m9PpuReadFd1 low => encodePpuRead (0x1FD#9 ++ low)
  | .m9PpuReadFe1 low => encodePpuRead (0x1FE#9 ++ low)
  | .m9PpuRead within => encodePpuRead within
  | .m9PpuWrite within value => encodePpuWrite within value
  | .m0Reset => encodeEvent 0#8
  | .m0MirrorQ => encodeEvent 4#8
  | .m0Scanline => encodeEvent 1#8
  | .m0IrqState => encodeEvent 2#8
  | .m0IrqClear => encodeEvent 3#8
  | .m1Reset => encodeEvent 0#8
  | .m1MirrorQ => encodeEvent 4#8
  | .m1Scanline => encodeEvent 1#8
  | .m1IrqState => encodeEvent 2#8
  | .m1IrqClear => encodeEvent 3#8
  | .m2Reset => encodeEvent 0#8
  | .m2MirrorQ => encodeEvent 4#8
  | .m2Scanline => encodeEvent 1#8
  | .m2IrqState => encodeEvent 2#8
  | .m2IrqClear => encodeEvent 3#8
  | .m3Reset => encodeEvent 0#8
  | .m3MirrorQ => encodeEvent 4#8
  | .m3Scanline => encodeEvent 1#8
  | .m3IrqState => encodeEvent 2#8
  | .m3IrqClear => encodeEvent 3#8
  | .m4Reset => encodeEvent 0#8
  | .m4MirrorQ => encodeEvent 4#8
  | .m4Scanline => encodeEvent 1#8
  | .m4IrqState => encodeEvent 2#8
  | .m4IrqClear => encodeEvent 3#8
  | .m9Reset => encodeEvent 0#8
  | .m9MirrorQ => encodeEvent 4#8
  | .m9Scanline => encodeEvent 1#8
  | .m9IrqState => encodeEvent 2#8
  | .m9IrqClear => encodeEvent 3#8
  | .apuP1Env duty halt constant volume => encodeCpuWrite 0x4000#16 (envByte duty halt constant volume)
  | .apuP1Sweep value => encodeCpuWrite 0x4001#16 value
  | .apuP1Tlo value => encodeCpuWrite 0x4002#16 value
  | .apuP1Len index timerHigh => encodeCpuWrite 0x4003#16 (lenByte index timerHigh)
  | .apuP2Env duty halt constant volume => encodeCpuWrite 0x4004#16 (envByte duty halt constant volume)
  | .apuP2Sweep value => encodeCpuWrite 0x4005#16 value
  | .apuP2Tlo value => encodeCpuWrite 0x4006#16 value
  | .apuP2Len index timerHigh => encodeCpuWrite 0x4007#16 (lenByte index timerHigh)
  | .apuTriLinear halt reload => encodeCpuWrite 0x4008#16 (BitVec.ofBool halt ++ reload)
  | .apuUnused4009 value => encodeCpuWrite 0x4009#16 value
  | .apuTriTlo value => encodeCpuWrite 0x400A#16 value
  | .apuTriLen index timerHigh => encodeCpuWrite 0x400B#16 (lenByte index timerHigh)
  | .apuNoiEnv halt constant volume => encodeCpuWrite 0x400C#16 (envByte 0#2 halt constant volume)
  | .apuUnused400d value => encodeCpuWrite 0x400D#16 value
  | .apuNoiPeriod value => encodeCpuWrite 0x400E#16 value
  | .apuNoiLen index => encodeCpuWrite 0x400F#16 (lenByte index 0#3)
  | .apuDmc0 value => encodeCpuWrite 0x4010#16 value
  | .apuDmc1 value => encodeCpuWrite 0x4011#16 value
  | .apuDmc2 value => encodeCpuWrite 0x4012#16 value
  | .apuDmc3 value => encodeCpuWrite 0x4013#16 value
  | .apuStatus dmc noise triangle pulse2 pulse1 => encodeCpuWrite 0x4015#16 (statusByte dmc noise triangle pulse2 pulse1)
  | .apuFrame value => encodeCpuWrite 0x4017#16 value
  | .sysTick => encodeEvent 5#8
  | .apuTick => encodeEvent 6#8
  | .apuQuarter => encodeEvent 7#8
  | .apuHalf => encodeEvent 8#8
  | .apuMix => encodeEvent 9#8
  | .apuReset => encodeEvent 10#8

/-! ### The opcode map as a table -/

/-- One row of the opcode map (rule R98): `mapper` is none for the APU table. -/
structure OpcodeRow where
  mnemonic : String
  mapper : Option MapperId
  pat : Nat
  mask : Nat
  deriving DecidableEq, Repr

/-- "A row of the opcode map matches a word when `TW & mask = match`" (rule R90). -/
def OpcodeRow.matchesWord (r : OpcodeRow) (w : Tw) : Bool :=
  w &&& BitVec.ofNat 27 r.mask == BitVec.ofNat 27 r.pat

/-- Rule R98, decoder table mapper 0, bus rows. -/
def m0BusRows : List OpcodeRow := [
  ⟨"M0.CPU_READ", some .m0, 0x0800000, 0x7800000⟩,
  ⟨"M0.CPU_WRITE", some .m0, 0x1800000, 0x7800000⟩,
  ⟨"M0.PPU_READ", some .m0, 0x2000000, 0x7E00000⟩,
  ⟨"M0.PPU_WRITE", some .m0, 0x3000000, 0x7E00000⟩]

/-- Rule R98, decoder table mapper 1, bus rows. -/
def m1BusRows : List OpcodeRow := [
  ⟨"M1.SRAM_READ", some .m1, 0x0600000, 0x7E00000⟩,
  ⟨"M1.SRAM_WRITE", some .m1, 0x1600000, 0x7E00000⟩,
  ⟨"M1.SERIAL_RESET", some .m1, 0x1800080, 0x7800080⟩,
  ⟨"M1.SERIAL_SHIFT", some .m1, 0x1800000, 0x7800080⟩,
  ⟨"M1.CPU_READ", some .m1, 0x0800000, 0x7800000⟩,
  ⟨"M1.PPU_READ", some .m1, 0x2000000, 0x7E00000⟩,
  ⟨"M1.PPU_WRITE", some .m1, 0x3000000, 0x7E00000⟩]

/-- Rule R98, decoder table mapper 2, bus rows. -/
def m2BusRows : List OpcodeRow := [
  ⟨"M2.BANK_SELECT", some .m2, 0x1800000, 0x7800000⟩,
  ⟨"M2.CPU_READ", some .m2, 0x0800000, 0x7800000⟩,
  ⟨"M2.PPU_READ", some .m2, 0x2000000, 0x7E00000⟩,
  ⟨"M2.PPU_WRITE", some .m2, 0x3000000, 0x7E00000⟩]

/-- Rule R98, decoder table mapper 3, bus rows. -/
def m3BusRows : List OpcodeRow := [
  ⟨"M3.CHR_SELECT", some .m3, 0x1800000, 0x7800000⟩,
  ⟨"M3.CPU_READ", some .m3, 0x0800000, 0x7800000⟩,
  ⟨"M3.PPU_READ", some .m3, 0x2000000, 0x7E00000⟩,
  ⟨"M3.PPU_WRITE", some .m3, 0x3000000, 0x7E00000⟩]

/-- Rule R98, decoder table mapper 4, bus rows. -/
def m4BusRows : List OpcodeRow := [
  ⟨"M4.SRAM_READ", some .m4, 0x0600000, 0x7E00000⟩,
  ⟨"M4.SRAM_WRITE", some .m4, 0x1600000, 0x7E00000⟩,
  ⟨"M4.BANK_SELECT", some .m4, 0x1800000, 0x7E00100⟩,
  ⟨"M4.BANK_DATA", some .m4, 0x1800100, 0x7E00100⟩,
  ⟨"M4.MIRROR", some .m4, 0x1A00000, 0x7E00100⟩,
  ⟨"M4.RAM_PROTECT", some .m4, 0x1A00100, 0x7E00100⟩,
  ⟨"M4.IRQ_LATCH", some .m4, 0x1C00000, 0x7E00100⟩,
  ⟨"M4.IRQ_RELOAD", some .m4, 0x1C00100, 0x7E00100⟩,
  ⟨"M4.IRQ_DISABLE", some .m4, 0x1E00000, 0x7E00100⟩,
  ⟨"M4.IRQ_ENABLE", some .m4, 0x1E00100, 0x7E00100⟩,
  ⟨"M4.CPU_READ", some .m4, 0x0800000, 0x7800000⟩,
  ⟨"M4.PPU_READ", some .m4, 0x2000000, 0x7E00000⟩,
  ⟨"M4.PPU_WRITE", some .m4, 0x3000000, 0x7E00000⟩]

/-- Rule R98, decoder table mapper 9, bus rows. -/
def m9BusRows : List OpcodeRow := [
  ⟨"M9.CPU_READ", some .m9, 0x0800000, 0x7800000⟩,
  ⟨"M9.NOP_WRITE", some .m9, 0x1800000, 0x7E00000⟩,
  ⟨"M9.PRG_SELECT", some .m9, 0x1A00000, 0x7F00000⟩,
  ⟨"M9.CHR_FD0", some .m9, 0x1B00000, 0x7F00000⟩,
  ⟨"M9.CHR_FE0", some .m9, 0x1C00000, 0x7F00000⟩,
  ⟨"M9.CHR_FD1", some .m9, 0x1D00000, 0x7F00000⟩,
  ⟨"M9.CHR_FE1", some .m9, 0x1E00000, 0x7F00000⟩,
  ⟨"M9.MIRROR", some .m9, 0x1F00000, 0x7F00000⟩,
  ⟨"M9.PPU_READ_FD0", some .m9, 0x20FD000, 0x7FFF000⟩,
  ⟨"M9.PPU_READ_FE0", some .m9, 0x20FE000, 0x7FFF000⟩,
  ⟨"M9.PPU_READ_FD1", some .m9, 0x21FD000, 0x7FFF000⟩,
  ⟨"M9.PPU_READ_FE1", some .m9, 0x21FE000, 0x7FFF000⟩,
  ⟨"M9.PPU_READ", some .m9, 0x2000000, 0x7E00000⟩,
  ⟨"M9.PPU_WRITE", some .m9, 0x3000000, 0x7E00000⟩]

/-- Rule R98, decoder table mapper 0, event rows. -/
def m0EventRows : List OpcodeRow := [
  ⟨"M0.RESET", some .m0, 0x4000000, 0x7FFFFFF⟩,
  ⟨"M0.MIRROR_Q", some .m0, 0x4000004, 0x7FFFFFF⟩,
  ⟨"M0.SCANLINE", some .m0, 0x4000001, 0x7FFFFFF⟩,
  ⟨"M0.IRQ_STATE", some .m0, 0x4000002, 0x7FFFFFF⟩,
  ⟨"M0.IRQ_CLEAR", some .m0, 0x4000003, 0x7FFFFFF⟩]

/-- Rule R98, decoder table mapper 1, event rows. -/
def m1EventRows : List OpcodeRow := [
  ⟨"M1.RESET", some .m1, 0x4000000, 0x7FFFFFF⟩,
  ⟨"M1.MIRROR_Q", some .m1, 0x4000004, 0x7FFFFFF⟩,
  ⟨"M1.SCANLINE", some .m1, 0x4000001, 0x7FFFFFF⟩,
  ⟨"M1.IRQ_STATE", some .m1, 0x4000002, 0x7FFFFFF⟩,
  ⟨"M1.IRQ_CLEAR", some .m1, 0x4000003, 0x7FFFFFF⟩]

/-- Rule R98, decoder table mapper 2, event rows. -/
def m2EventRows : List OpcodeRow := [
  ⟨"M2.RESET", some .m2, 0x4000000, 0x7FFFFFF⟩,
  ⟨"M2.MIRROR_Q", some .m2, 0x4000004, 0x7FFFFFF⟩,
  ⟨"M2.SCANLINE", some .m2, 0x4000001, 0x7FFFFFF⟩,
  ⟨"M2.IRQ_STATE", some .m2, 0x4000002, 0x7FFFFFF⟩,
  ⟨"M2.IRQ_CLEAR", some .m2, 0x4000003, 0x7FFFFFF⟩]

/-- Rule R98, decoder table mapper 3, event rows. -/
def m3EventRows : List OpcodeRow := [
  ⟨"M3.RESET", some .m3, 0x4000000, 0x7FFFFFF⟩,
  ⟨"M3.MIRROR_Q", some .m3, 0x4000004, 0x7FFFFFF⟩,
  ⟨"M3.SCANLINE", some .m3, 0x4000001, 0x7FFFFFF⟩,
  ⟨"M3.IRQ_STATE", some .m3, 0x4000002, 0x7FFFFFF⟩,
  ⟨"M3.IRQ_CLEAR", some .m3, 0x4000003, 0x7FFFFFF⟩]

/-- Rule R98, decoder table mapper 4, event rows. -/
def m4EventRows : List OpcodeRow := [
  ⟨"M4.RESET", some .m4, 0x4000000, 0x7FFFFFF⟩,
  ⟨"M4.MIRROR_Q", some .m4, 0x4000004, 0x7FFFFFF⟩,
  ⟨"M4.SCANLINE", some .m4, 0x4000001, 0x7FFFFFF⟩,
  ⟨"M4.IRQ_STATE", some .m4, 0x4000002, 0x7FFFFFF⟩,
  ⟨"M4.IRQ_CLEAR", some .m4, 0x4000003, 0x7FFFFFF⟩]

/-- Rule R98, decoder table mapper 9, event rows. -/
def m9EventRows : List OpcodeRow := [
  ⟨"M9.RESET", some .m9, 0x4000000, 0x7FFFFFF⟩,
  ⟨"M9.MIRROR_Q", some .m9, 0x4000004, 0x7FFFFFF⟩,
  ⟨"M9.SCANLINE", some .m9, 0x4000001, 0x7FFFFFF⟩,
  ⟨"M9.IRQ_STATE", some .m9, 0x4000002, 0x7FFFFFF⟩,
  ⟨"M9.IRQ_CLEAR", some .m9, 0x4000003, 0x7FFFFFF⟩]

/-- Rule R98, decoder table APU. -/
def apuRows : List OpcodeRow := [
  ⟨"APU.P1_ENV", none, 0x1400000, 0x7FFFF00⟩,
  ⟨"APU.P1_SWEEP", none, 0x1400100, 0x7FFFF00⟩,
  ⟨"APU.P1_TLO", none, 0x1400200, 0x7FFFF00⟩,
  ⟨"APU.P1_LEN", none, 0x1400300, 0x7FFFF00⟩,
  ⟨"APU.P2_ENV", none, 0x1400400, 0x7FFFF00⟩,
  ⟨"APU.P2_SWEEP", none, 0x1400500, 0x7FFFF00⟩,
  ⟨"APU.P2_TLO", none, 0x1400600, 0x7FFFF00⟩,
  ⟨"APU.P2_LEN", none, 0x1400700, 0x7FFFF00⟩,
  ⟨"APU.TRI_LINEAR", none, 0x1400800, 0x7FFFF00⟩,
  ⟨"APU.UNUSED_4009", none, 0x1400900, 0x7FFFF00⟩,
  ⟨"APU.TRI_TLO", none, 0x1400A00, 0x7FFFF00⟩,
  ⟨"APU.TRI_LEN", none, 0x1400B00, 0x7FFFF00⟩,
  ⟨"APU.NOI_ENV", none, 0x1400C00, 0x7FFFF00⟩,
  ⟨"APU.UNUSED_400D", none, 0x1400D00, 0x7FFFF00⟩,
  ⟨"APU.NOI_PERIOD", none, 0x1400E00, 0x7FFFF00⟩,
  ⟨"APU.NOI_LEN", none, 0x1400F00, 0x7FFFF00⟩,
  ⟨"APU.DMC0", none, 0x1401000, 0x7FFFF00⟩,
  ⟨"APU.DMC1", none, 0x1401100, 0x7FFFF00⟩,
  ⟨"APU.DMC2", none, 0x1401200, 0x7FFFF00⟩,
  ⟨"APU.DMC3", none, 0x1401300, 0x7FFFF00⟩,
  ⟨"APU.STATUS", none, 0x1401500, 0x7FFFF00⟩,
  ⟨"APU.FRAME", none, 0x1401700, 0x7FFFF00⟩,
  ⟨"SYS.TICK", none, 0x4000005, 0x7FFFFFF⟩,
  ⟨"APU.TICK", none, 0x4000006, 0x7FFFFFF⟩,
  ⟨"APU.QUARTER", none, 0x4000007, 0x7FFFFFF⟩,
  ⟨"APU.HALF", none, 0x4000008, 0x7FFFFFF⟩,
  ⟨"APU.MIX", none, 0x4000009, 0x7FFFFFF⟩,
  ⟨"APU.RESET", none, 0x400000A, 0x7FFFFFF⟩]

/-- The rows of the table of mapper `m`, in the order in which they are tried (rules R92, R93). -/
def mapperRows : MapperId → List OpcodeRow
  | .m0 => m0BusRows ++ m0EventRows
  | .m1 => m1BusRows ++ m1EventRows
  | .m2 => m2BusRows ++ m2EventRows
  | .m3 => m3BusRows ++ m3EventRows
  | .m4 => m4BusRows ++ m4EventRows
  | .m9 => m9BusRows ++ m9EventRows

/-- The first row that matches a word on a block with mapper `m`: the mapper's table first, then the
APU table (rules R92, R93). -/
def firstMatchingRow (m : MapperId) (w : Tw) : Option OpcodeRow :=
  (mapperRows m ++ apuRows).find? (fun r => r.matchesWord w)

end Sys2Proof
end

