-- ==== Sys2Proof/Machine/Tables.lean ====
section
/-! DEFINITION. The constants of the rules that are tables or literals of the spec. -/

namespace Sys2Proof.Machine

/-- The default `LENGTH_TABLE` (rule R131). -/
def defaultLengthTable : Vector Byte 32 :=
  #v[10, 254, 20, 2, 40, 4, 80, 6, 160, 8, 60, 10, 14, 12, 26, 14,
     12, 16, 24, 18, 48, 20, 96, 22, 192, 24, 72, 26, 16, 28, 32, 30]

/-- The system ticks per APU tick: "APU tick = 1 per 6 system ticks" (rule R111). -/
def apuTickDivisor : Nat := 6

/-- The first count that fires a quarter-frame event alone (rule R112). -/
def firstQuarterCount : Nat := 3729

/-- The count of the first half-frame event (rule R112). -/
def firstHalfCount : Nat := 7457

/-- The second count that fires a quarter-frame event alone (rule R112). -/
def secondQuarterCount : Nat := 11186

/-- The count of the last two events, at which `fc` returns to 0 (rule R112). -/
def lastCount : Nat := 14916

/-- The constants of the mixer formulas, in one record so that a claim can name them (rule R152). -/
structure MixConstants where
  pulseScale : Rat
  pulseNumerator : Rat
  tndScale : Rat
  triangleDivisor : Rat
  noiseDivisor : Rat
  base : Rat
  gain : Rat
  deriving DecidableEq, Repr

/-- The document's literals: 95.88, 8128, 159.79, 8227, 12241, 100 and 10 (rules R152, R155). -/
def mixConstants : MixConstants where
  pulseScale := 2397 / 25
  pulseNumerator := 8128
  tndScale := 15979 / 100
  triangleDivisor := 8227
  noiseDivisor := 12241
  base := 100
  gain := 10

end Sys2Proof.Machine
end

