-- ==== Sys2Proof/Machine/Registers.lean ====
section
/-! DEFINITION. The types of which the state is made (rules R20 to R42, R160): the mapper registers,
the APU units, memory, and what an operation takes and answers. All plain data. -/

namespace Sys2Proof.Machine

/-! ### Mapper state, one variant per mapper ID -/

/-- Mapper 1, MMC1 (rule R25). -/
structure M1State where
  sr : BitVec 5
  cnt : Nat
  ctrl : BitVec 5
  chr0 : BitVec 5
  chr1 : BitVec 5
  prg : BitVec 5
  lastStep : Nat
  deriving DecidableEq, Repr

/-- Mapper 2 (rule R27). -/
structure M2State where
  prgLo : BitVec 4
  deriving DecidableEq, Repr

/-- Mapper 3 (rule R28). -/
structure M3State where
  chrSel : BitVec 2
  deriving DecidableEq, Repr

/-- Mapper 4, MMC3 (rule R29). `bank` is the register file `R[0..7]` (rule R22); `chrOff` and `prgOff`
are the latched offsets (rule R30). -/
structure M4State where
  target : BitVec 3
  prgMode : Bool
  chrInv : Bool
  bank : Vector Byte 8
  chrOff : Vector Nat 8
  prgOff : Vector Nat 4
  mirror : MirrorMode
  irqReload : Byte
  irqCounter : Byte
  irqEnable : Bool
  irqActive : Bool
  deriving DecidableEq, Repr

/-- Mapper 9, MMC2 (rule R31). -/
structure M9State where
  prgSel : BitVec 4
  chrFd0 : BitVec 5
  chrFe0 : BitVec 5
  chrFd1 : BitVec 5
  chrFe1 : BitVec 5
  latch0 : Latch
  latch1 : Latch
  mirror : MirrorMode
  deriving DecidableEq, Repr

/-- The mapper state: one variant, chosen by `Cfg.mapperID` (rule R20). Mapper 0 has none (rule
R24). -/
inductive MapState where
  | m0
  | m1 (r : M1State)
  | m2 (r : M2State)
  | m3 (r : M3State)
  | m4 (r : M4State)
  | m9 (r : M9State)
  deriving DecidableEq, Repr

/-- The mapper a variant belongs to: the one `Cfg.mapperID` chooses it by (rules R6, R20). -/
def MapState.id : MapState → MapperId
  | .m0 => .m0
  | .m1 _ => .m1
  | .m2 _ => .m2
  | .m3 _ => .m3
  | .m4 _ => .m4
  | .m9 _ => .m9

/-! ### APU state -/

/-- One envelope unit (rule R36). `divider` is `divider_count`, `decay` is `decay_count`. -/
structure Envelope where
  start : Bool
  disable : Bool
  volume : BitVec 4
  divider : BitVec 4
  decay : BitVec 4
  deriving DecidableEq, Repr

/-- The APU state of the block (rules R35 to R41). -/
structure ApuState where
  tick : Nat
  fc : Nat
  envP1 : Envelope
  envP2 : Envelope
  envN : Envelope
  lenP1 : Byte
  lenP2 : Byte
  lenT : Byte
  lenN : Byte
  haltP1 : Bool
  haltP2 : Bool
  haltN : Bool
  haltT : Bool
  enP1 : Bool
  enP2 : Bool
  enT : Bool
  enN : Bool
  enDmc : Bool
  linCounter : BitVec 7
  linReload : BitVec 7
  linReloadFlag : Bool
  sweepP1 : SweepState
  sweepP2 : SweepState
  dmcReg : Vector Byte 4
  deriving DecidableEq, Repr

/-! ### Memory -/

/-- The backing arrays a translated offset indexes (rules R45, R160). -/
inductive Space where
  | prg | chr
  deriving DecidableEq, Repr

/-! ### Operations, their operands beside the word, and their answers -/

/-- The operands an operation carries beside its word: the CPU's instruction counter (rule R192), the
mixer's operands (rule R150), and the reload values that the two pulse timers outside the block then
hold (rules R134, R135). -/
structure Side where
  cpuStep : Nat
  mix : MixOperands
  reloadP1 : Nat
  reloadP2 : Nat
  deriving DecidableEq, Repr

/-- The parameter bytes handed to the two sweep units and not yet consumed by a clock, oldest first: what
the units hold outside the block (rules R97 (d), R138; log 8). -/
structure SweepInbox where
  p1 : List Byte
  p2 : List Byte
  deriving DecidableEq, Repr

/-- One operation as the environment issues it (rules R9, R90). -/
structure Transaction where
  word : Tw
  side : Side
  deriving DecidableEq, Repr

/-- The result of a mapper translation (rule R160). -/
inductive MapResult where
  | notClaimed
  | offset (space : Space) (off : Nat)
  | internalRead (v : Byte)
  | internalWrite
  deriving DecidableEq, Repr

/-- What an operation returns to its issuer. -/
inductive Response where
  /-- Nothing (rules R169, R170). -/
  | none
  /-- A read: the mapper's result and the byte, if claimed (rules R161, R164). -/
  | read (r : MapResult) (data : Option Byte)
  /-- A write: the mapper's result (rules R162, R165). -/
  | write (r : MapResult)
  /-- A bus word of kind 0 to 3 that matches no row (rules R97 (b), R171). -/
  | notClaimed
  /-- `IrqState` (rules R170, R246). -/
  | irq (active : Bool)
  /-- `Mirror` (rule R168). -/
  | mirror (mode : MirrorMode)
  /-- `Mix` (rule R150). -/
  | sample (output : Sample)
  deriving DecidableEq, Repr

/-- What the block drives for the last operation: its response, the signal `RamWritten` (rule R162),
the internal events emitted inside it (rules R111, R112), and the two timer reload values that the
sweep units return at a half-frame event (rule R134). -/
structure Outputs where
  resp : Response
  ramWritten : Bool
  apuTick : Bool
  quarter : Bool
  half : Bool
  reloads : Option (Nat × Nat)
  deriving DecidableEq, Repr

/-! ### The block, and what stands outside it -/

/-- The state of the block: the record of rule R20. An array is state only under some configurations: static
RAM on mappers 1 and 4 (rule R33), CHR when `CHRbanks` is 0 (rule R34), PRG when `PRG_WRITABLE`; under the
others it is none here, and the contents of PRG and CHR are those of `Cfg`. -/
structure Block where
  map : MapState
  sramState : Option Memory
  chrState : Option Memory
  prgState : Option Memory
  apu : ApuState
  deriving DecidableEq, Repr

/-- What stands outside the block (rules R5, R20, R75): the operations still to come, the operands of the
operation in progress that are no bits of its word, what the block answered last, and the bytes that the
opaque sweep units have been handed. No state of the block; the model's own (logs 1, 2, 8). -/
structure Environment where
  inbox : SweepInbox
  side : Side
  out : Outputs
  pending : List Transaction
  deriving DecidableEq, Repr

end Sys2Proof.Machine
end

