-- ==== Sys2Proof/Machine/Operands.lean ====
section
/-! DEFINITION. Address translation: the windows, the banks they show, and the offset an access has in
its backing array (rules R69 to R73, R163). Every function here is pure. -/

namespace Sys2Proof.Machine

/-! ### What every translation shares -/

/-- `wrapPRG` (rules R72, R163). -/
def wrapPrg (c : Cfg) (raw : Nat) : Nat := raw % c.prgSize

/-- `wrapCHR` (rules R72, R163). -/
def wrapChr (c : Cfg) (raw : Nat) : Nat := raw % c.chrSize

/-- The raw offset: bank number times window size, plus the low address bits (rules R69, R96 (c)). -/
def windowOffset (bank : Nat) (size : Nat) (low : Nat) : Nat := bank * size + low

/-- The low `n` bits of an address: `addr & (2^n - 1)` (rule R69). -/
def lowBits {w : Nat} (n : Nat) (a : BitVec w) : Nat := (a.extractLsb' 0 n).toNat

/-- A claimed PRG access: the raw offset reduced to the array (rule R163). -/
def prgResult (c : Cfg) (raw : Nat) : MapResult := .offset .prg (wrapPrg c raw)

/-- A claimed CHR access: the raw offset reduced to the array (rule R163). -/
def chrResult (c : Cfg) (raw : Nat) : MapResult := .offset .chr (wrapChr c raw)

/-- A PPU write of mappers 0, 1 and 2: claimed only when CHR is RAM (rules R67, R185). -/
def chrRamResult (c : Cfg) (within : BitVec 13) : MapResult :=
  if c.chrBanks = 0 then .offset .chr within.toNat else .notClaimed

/-! ### Mappers 0 and 3: fixed PRG -/

/-- $8000-$FFFF masked to the single or the double bank size (rules R182, R223). -/
def fixedPrgRaw (c : Cfg) (within : BitVec 15) : Nat :=
  if c.prgBanks > 1 then lowBits 15 within else lowBits 14 within

/-- Mapper 3's CHR window (rule R224). -/
def m3ChrRaw (r : M3State) (within : BitVec 13) : Nat :=
  windowOffset r.chrSel.toNat 0x2000 within.toNat

/-! ### Mapper 1 -/

/-- `ctrl[3:2]`, the PRG mode (rule R26). -/
def M1State.prgMode (r : M1State) : Nat := (r.ctrl.extractLsb' 2 2).toNat

/-- `ctrl[4]`, the CHR mode: true for two 4 KiB windows (rule R26). -/
def M1State.chrMode (r : M1State) : Bool := r.ctrl.getLsbD 4

/-- `prg[3:0]`; `prg[4]` is ignored (rule R198). -/
def M1State.bank16 (r : M1State) : Nat := (r.prg.extractLsb' 0 4).toNat

/-- `prg[3:1]`, the 32 KiB bank number; `prg[0]` is ignored (rule R198). -/
def M1State.bank32 (r : M1State) : Nat := (r.prg.extractLsb' 1 3).toNat

/-- The CPU window of mapper 1 by PRG mode; `addr[14]` tells $8000-$BFFF from $C000-$FFFF (rule
R198). -/
def m1PrgRaw (c : Cfg) (r : M1State) (within : BitVec 15) : Nat :=
  let upper := within.getLsbD 14
  let low := lowBits 14 within
  match r.prgMode with
  | 2 => if upper then windowOffset r.bank16 0x4000 low else windowOffset 0 0x4000 low
  | 3 => if upper then windowOffset (c.prgBanks - 1) 0x4000 low else windowOffset r.bank16 0x4000 low
  | _ => windowOffset r.bank32 0x8000 (lowBits 15 within)

/-- The PPU window of mapper 1: CHR RAM is not banked, then by CHR mode (rule R200). -/
def m1ChrRaw (c : Cfg) (r : M1State) (within : BitVec 13) : Nat :=
  if c.chrBanks = 0 then within.toNat
  else if r.chrMode then
    if within.getLsbD 12 then windowOffset r.chr1.toNat 0x1000 (lowBits 12 within)
    else windowOffset r.chr0.toNat 0x1000 (lowBits 12 within)
  else windowOffset (r.chr0 &&& 0x1E#5).toNat 0x1000 (lowBits 13 within)

/-! ### Mapper 2 -/

/-- The low window is switchable, the high window is the last bank (rule R213). -/
def m2PrgRaw (c : Cfg) (r : M2State) (within : BitVec 15) : Nat :=
  let low := lowBits 14 within
  if within.getLsbD 14 then windowOffset (c.prgBanks - 1) 0x4000 low
  else windowOffset r.prgLo.toNat 0x4000 low

/-! ### Mapper 4: the latched offsets -/

/-- The two offsets of a 2 KiB pair: `(R & 0xFE) * 0x400` and the next 1 KiB (rule R235). -/
def chrPair (b : Byte) : Nat × Nat :=
  let base := (b &&& 0xFE#8).toNat * 0x400
  (base, base + 0x400)

/-- The offset of a 1 KiB bank (rule R235). -/
def chrSingle (b : Byte) : Nat := b.toNat * 0x400

/-- The eight CHR sub-bank offsets, by the inversion flag (rule R235). -/
def chrLayout (inverted : Bool) (bank : Vector Byte 8) : Vector Nat 8 :=
  let a := chrPair bank[0]
  let b := chrPair bank[1]
  if inverted then
    #v[chrSingle bank[2], chrSingle bank[3], chrSingle bank[4], chrSingle bank[5],
       a.1, a.2, b.1, b.2]
  else
    #v[a.1, a.2, b.1, b.2,
       chrSingle bank[2], chrSingle bank[3], chrSingle bank[4], chrSingle bank[5]]

/-- The four PRG bank offsets, by the mode flag; the last two 8 KiB banks are pinned (rule R235). -/
def prgLayout (prgBanks : Nat) (mode : Bool) (bank : Vector Byte 8) : Vector Nat 4 :=
  let switched := (bank[6] &&& 0x3F#8).toNat * 0x2000
  let second := (bank[7] &&& 0x3F#8).toNat * 0x2000
  let pinned := (2 * prgBanks - 2) * 0x2000
  let last := (2 * prgBanks - 1) * 0x2000
  if mode then #v[pinned, second, switched, last] else #v[switched, second, pinned, last]

/-- `Recompute()`: all twelve latched offsets (rule R235). -/
def M4State.recompute (prgBanks : Nat) (r : M4State) : M4State :=
  { r with
    chrOff := chrLayout r.chrInv r.bank
    prgOff := prgLayout prgBanks r.prgMode r.bank }

/-- The CPU window of mapper 4, `addr[14:13]` (rule R242). -/
def m4PrgRaw (r : M4State) (within : BitVec 15) : Nat :=
  r.prgOff[(within.extractLsb' 13 2).toNat]'(within.extractLsb' 13 2).isLt + lowBits 13 within

/-- The PPU window of mapper 4, `addr[12:10]` (rule R243). -/
def m4ChrRaw (r : M4State) (within : BitVec 13) : Nat :=
  r.chrOff[(within.extractLsb' 10 3).toNat]'(within.extractLsb' 10 3).isLt + lowBits 10 within

/-! ### Mapper 9 -/

/-- The 8 KiB bank of each CPU window; the last three are constants of the cartridge (rule R262). -/
def m9PrgBank (c : Cfg) (r : M9State) (window : Nat) : Nat :=
  match window with
  | 0 => r.prgSel.toNat
  | 1 => (4 * c.prgBanks - 3) % (2 * c.prgBanks)
  | 2 => (4 * c.prgBanks - 2) % (2 * c.prgBanks)
  | _ => (4 * c.prgBanks - 1) % (2 * c.prgBanks)

/-- The CPU window of mapper 9, `addr[14:13]` (rule R262). -/
def m9PrgRaw (c : Cfg) (r : M9State) (within : BitVec 15) : Nat :=
  windowOffset (m9PrgBank c r (within.extractLsb' 13 2).toNat) 0x2000 (lowBits 13 within)

/-- The 4 KiB bank a PPU window shows, by its latch (rule R268, step 1). -/
def m9ChrBank (r : M9State) (upper : Bool) : Nat :=
  if upper then
    match r.latch1 with
    | .fd => r.chrFd1.toNat
    | .fe => r.chrFe1.toNat
  else
    match r.latch0 with
    | .fd => r.chrFd0.toNat
    | .fe => r.chrFe0.toNat

/-- The PPU window of mapper 9, `addr[12]` (rule R268, step 1). -/
def m9ChrRaw (r : M9State) (within : BitVec 13) : Nat :=
  windowOffset (m9ChrBank r (within.getLsbD 12)) 0x1000 (lowBits 12 within)

/-! ### The answer in the source's shape -/

/-- The pair (claimed, mapped) of the source, with the sentinel for what mapper RAM handled (rule
R160). A not-claimed access maps to nothing; its second component is 0. -/
def MapResult.asPair (c : Cfg) : MapResult → Bool × Nat
  | .notClaimed => (false, 0)
  | .offset _ off => (true, off)
  | .internalRead _ => (true, c.sentinel)
  | .internalWrite => (true, c.sentinel)

end Sys2Proof.Machine
end

