-- ==== Sys2Proof/Machine/ResetValues.lean ====
section
/-! DEFINITION. The values after reset (rules R46, R47, R300, R301), and the configuration of the
cartridge in `State.reset`. -/

namespace Sys2Proof.Machine

/-- The configuration of the cartridge in `State.reset` (DESIGN CHOICE, log 3; the length table and
the two defaults are the spec's). -/
def resetCfg : Cfg where
  prgBanks := 1
  chrBanks := 0
  hwMirror := .horizontal
  battery := false
  sentinelAbove := 0
  prgWritable := false
  mmc1Accept := .uninterpreted
  latchReset0 := .fd
  latchReset1 := .fd
  mixArith := .exact
  lengthTable := defaultLengthTable
  mapperId := .m4
  prg := []
  chr := []
  sramInit := []

/-- Mapper 1 after `Reset` (rule R203). -/
def M1State.reset : M1State where
  sr := 0
  cnt := 0
  ctrl := 0x1C
  chr0 := 0
  chr1 := 0
  prg := 0
  lastStep := 0

/-- Mapper 2 after `Reset` (rule R216). -/
def M2State.reset : M2State where
  prgLo := 0

/-- Mapper 3 after `Reset` (rule R226). -/
def M3State.reset : M3State where
  chrSel := 0

/-- Mapper 4 after `Reset`: everything 0 and false, then `Recompute` (rule R248). -/
def M4State.reset (prgBanks : Nat) : M4State :=
  M4State.recompute prgBanks
    { target := 0
      prgMode := false
      chrInv := false
      bank := Vector.replicate 8 0
      chrOff := Vector.replicate 8 0
      prgOff := Vector.replicate 4 0
      mirror := .horizontal
      irqReload := 0
      irqCounter := 0
      irqEnable := false
      irqActive := false }

/-- Mapper 9 after `Reset`; the latches are a parameter (rule R273). -/
def M9State.reset (c : Cfg) : M9State where
  prgSel := 0
  chrFd0 := 0
  chrFe0 := 0
  chrFd1 := 0
  chrFe1 := 0
  latch0 := c.latchReset0
  latch1 := c.latchReset1
  mirror := .vertical

/-- The mapper state after `Reset`, per variant (rule R300). -/
def MapState.reset (m : MapperId) (c : Cfg) : MapState :=
  match m with
  | .m0 => .m0
  | .m1 => .m1 M1State.reset
  | .m2 => .m2 M2State.reset
  | .m3 => .m3 M3State.reset
  | .m4 => .m4 (M4State.reset c.prgBanks)
  | .m9 => .m9 (M9State.reset c)

/-- An envelope unit after `ApuReset` (rules R36, R47). -/
def Envelope.reset : Envelope where
  start := false
  disable := false
  volume := 0
  divider := 0
  decay := 0

/-- A sweep unit after `ApuReset` (rules R47, R301). -/
def sweepReset : SweepState where
  enabled := false
  negate := false
  shift := 0
  period := 0
  timer := 0
  change := 0
  mute := false

/-- The APU after `ApuReset` (rule R47). -/
def ApuState.reset : ApuState where
  tick := 0
  fc := 0
  envP1 := Envelope.reset
  envP2 := Envelope.reset
  envN := Envelope.reset
  lenP1 := 0
  lenP2 := 0
  lenT := 0
  lenN := 0
  haltP1 := false
  haltP2 := false
  haltN := false
  haltT := false
  enP1 := false
  enP2 := false
  enT := false
  enN := false
  enDmc := false
  linCounter := 0
  linReload := 0
  linReloadFlag := false
  sweepP1 := sweepReset
  sweepP2 := sweepReset
  dmcReg := #v[0, 0, 0, 0]

/-- The operands beside the word before any operation (DESIGN CHOICE, logs 2 and 8). -/
def Side.reset : Side where
  cpuStep := 0
  mix := ⟨0, 0, 0, 0, false, false, false, false⟩
  reloadP1 := 8
  reloadP2 := 8

/-- No parameter byte has been handed to a sweep unit (rule R301: the units are in their initial value). -/
def SweepInbox.empty : SweepInbox where
  p1 := []
  p2 := []

/-- The outputs before any operation (DESIGN CHOICE, log 2). -/
def Outputs.reset : Outputs where
  resp := .none
  ramWritten := false
  apuTick := false
  quarter := false
  half := false
  reloads := none

/-- Static RAM at construction: `SRAM_INIT`, on the mappers that have it (rules R33, R302). -/
def sramAtReset (c : Cfg) : Option Memory := if c.mapperId.ownsSram then some c.sramInit else none

/-- CHR as state at construction: all zero when there is no CHR bank, else part of `Cfg` (rules R34,
R302). -/
def chrAtReset (c : Cfg) : Option Memory := if c.chrBanks = 0 then some [] else none

/-- PRG as state at construction: the cartridge's bytes when `PRG_WRITABLE`, else part of `Cfg` (rules R20,
R302). -/
def prgAtReset (c : Cfg) : Option Memory := if c.prgWritable then some c.prg else none

/-- The state of the block after construction and reset under a configuration (rule R302). -/
def Block.reset (c : Cfg) : Block where
  map := MapState.reset c.mapperId c
  sramState := sramAtReset c
  chrState := chrAtReset c
  prgState := prgAtReset c
  apu := ApuState.reset

/-- What stands outside the block before any operation (DESIGN CHOICE, logs 1, 2 and 8). -/
def Environment.reset : Environment where
  inbox := SweepInbox.empty
  side := Side.reset
  out := Outputs.reset
  pending := []

end Sys2Proof.Machine
end

