-- ==== Sys2Proof/Machine/State.lean ====
section
/-! DEFINITION. The machine's state, as plain data, why it stops, and the state after reset. -/

namespace Sys2Proof.Machine

/-- The arguments of the step function, as one: the block's state, what stands outside the block, and the
configuration the block runs under (rules R6, R20). The host's `step` and `exec` take one argument, so they
are given the three together, while `blockStep` takes them apart (log 3). -/
structure State extends Block, Environment where
  cfg : Cfg
  deriving DecidableEq, Repr

/-- Why the machine stops with a fault. It has no constructor: "No operation of the block, on any
state, with any address and any data byte, faults, traps, aborts or fails to complete" (rule R280). -/
inductive Fault where
  deriving DecidableEq, Repr

/-- Why an instruction has no meaning in a state. -/
inductive Refusal where
  /-- Raised by `exec`'s arm of an instruction that has no meaning yet. Safe. -/
  | notModelled (mnemonic : String)
  /-- Raised by every meaning of one mapper's table on a block that has another mapper. `step` never
  raises it: the decoder only gives operations of the selected table (rule R92). Safe. -/
  | otherMapper
  deriving DecidableEq, Repr

/-- The block right after construction and reset (rule R302), with the cartridge of `resetCfg` and
no operation issued yet. -/
def State.reset : State where
  toBlock := Block.reset resetCfg
  toEnvironment := Environment.reset
  cfg := resetCfg

end Sys2Proof.Machine
end

