-- ==== Sys2Proof/Machine/Flags.lean ====
section
/-! DEFINITION. The one-bit flags of the block (rule R43): what sets each, and the outputs that are
functions of them. -/

namespace Sys2Proof.Machine

/-! ### Mapper 1 -/

/-- `MMC1_ACCEPT(last_step, step)` under each instance of the open parameter (rule R197). -/
def gateAccepts (g : Mmc1Gate) (lastStep step : Nat) : Bool :=
  match g with
  | .literal => step != lastStep + 1
  | .inverted => step == lastStep + 1
  | .all => true
  | .uninterpreted => Config.mmc1AcceptUninterpreted lastStep step

/-- The mirroring field `ctrl[1:0]` (rules R26, R202). -/
def m1Mirror (ctrl : BitVec 5) : MirrorMode :=
  match (ctrl.extractLsb' 0 2).toNat with
  | 0 => .oneScreenLo
  | 1 => .oneScreenHi
  | 2 => .vertical
  | _ => .horizontal

/-! ### Mappers 4 and 9 -/

/-- The mirroring register of format MIRROR1: 1 is HORIZONTAL (rules R236, R269). -/
def mirrorOfBit (horizontal : Bool) : MirrorMode :=
  if horizontal then .horizontal else .vertical

/-- The scanline counter after one `Scanline`: a counter found at zero is reloaded, any other is
decremented (rule R245). -/
def scanlineCounter (reload counter : Byte) : Byte :=
  if counter = 0 then reload else counter - 1

/-- One `Scanline`: the counter first, then the request, raised when the NEW counter is zero and the
IRQ is enabled (rules R245, R283, R285). -/
def M4State.scanline (r : M4State) : M4State :=
  let counter := scanlineCounter r.irqReload r.irqCounter
  { r with
    irqCounter := counter
    irqActive := r.irqActive || (counter == 0 && r.irqEnable) }

/-- The request is dropped; the counter, its reload value and the enable are not (rule R247). -/
def M4State.clearRequest (r : M4State) : M4State := { r with irqActive := false }

/-- What a consumer of a `Mirror` report uses: HARDWARE defers to the cartridge (rule R168). -/
def effectiveMirror (c : Cfg) (mode : MirrorMode) : MirrorMode :=
  match mode with
  | .hardware =>
    match c.hwMirror with
    | .horizontal => .horizontal
    | .vertical => .vertical
    | .fourScreen => .fourScreen
  | m => m

/-! ### APU -/

/-- `env_out`, combinational (rule R122). -/
def Envelope.output (e : Envelope) : BitVec 4 := if e.disable then e.volume else e.decay

/-- The `mute` predicate on a timer reload value, whatever `enabled` is (rules R43, R135). -/
def sweepMute (target : Nat) : Bool := decide (target < 8 ∨ 0x7FF < target)

/-- The reload value of a pulse timer, outside the block: what its sweep unit returned in the last
operation if that held a half-frame event, else what was presented beside it (rule R134; log 8). -/
def State.timerReload (s : State) (channel : PulseChannel) : Nat :=
  match s.out.reloads, channel with
  | some reloads, .p1 => reloads.1
  | some reloads, .p2 => reloads.2
  | none, .p1 => s.side.reloadP1
  | none, .p2 => s.side.reloadP2

/-- A sweep `mute` flag, an output of the block (rule R120), combinational: true whenever the timer
reload value is below 8 or above 0x7FF, at a clock or between clocks (rules R43, R135). -/
def State.sweepMuted (s : State) (channel : PulseChannel) : Bool := sweepMute (s.timerReload channel)

end Sys2Proof.Machine
end

