-- ==== Sys2Proof/Machine/Ops.lean ====
section
/-! DEFINITION. The named operations over memory and over the parts of the state, and what the
cartridge does with a translation (rules R160 to R165). The block takes no exception (rules R280,
R287): what stands in its place is the interrupt request of mapper 4, in Flags.lean. -/

namespace Sys2Proof.Machine

/-- What an operation's meaning answers. -/
abbrev Result := Host.Outcome State Fault Refusal

/-! ### Memory -/

/-- `MemRead(space, off, 1)`: an unlisted offset reads as 0 (rule R8; log 4). -/
def Memory.read (m : Memory) (off : Nat) : Byte :=
  match m with
  | [] => 0
  | (a, b) :: rest => if a = off then b else Memory.read rest off

/-- The entry for `off`, none when the byte is what an unlisted offset reads as. -/
def Memory.entry (off : Nat) (v : Byte) : Memory := if v = 0 then [] else [(off, v)]

/-- `MemWrite(space, off, 1, v)` (rule R8), keeping the canonical form. -/
def Memory.write (m : Memory) (off : Nat) (v : Byte) : Memory :=
  match m with
  | [] => Memory.entry off v
  | (a, b) :: rest =>
    if a < off then (a, b) :: Memory.write rest off v
    else if a = off then Memory.entry off v ++ rest
    else Memory.entry off v ++ (a, b) :: rest

/-- The entries' offsets are at least `low` and strictly rising, and no entry holds 0. -/
def Memory.sortedFrom (low : Nat) (m : Memory) : Bool :=
  match m with
  | [] => true
  | (a, b) :: rest => low ≤ a && b != 0 && Memory.sortedFrom (a + 1) rest

/-- The canonical form of a memory. -/
def Memory.wf (m : Memory) : Bool := Memory.sortedFrom 0 m

/-- Every listed offset is below `size`: the array has `size` bytes. -/
def Memory.within (m : Memory) (size : Nat) : Bool := m.all (fun cell => cell.1 < size)

/-- The memory that holds the bytes of a list from offset `at_` on. -/
def Memory.ofBytesFrom (at_ : Nat) (bytes : List Byte) : Memory :=
  match bytes with
  | [] => []
  | b :: rest => Memory.entry at_ b ++ Memory.ofBytesFrom (at_ + 1) rest

/-- The memory that holds an array given byte by byte. -/
def Memory.ofBytes (bytes : List Byte) : Memory := Memory.ofBytesFrom 0 bytes

/-! ### The parts of the state -/

/-- The block, what stands outside it and the configuration it runs under, as one. -/
def Block.under (b : Block) (e : Environment) (c : Cfg) : State :=
  { toBlock := b, toEnvironment := e, cfg := c }

def State.setMap (s : State) (map : MapState) : State := { s with map := map }
def State.setPrg (s : State) (prg : Memory) : State := { s with prgState := some prg }
def State.setChr (s : State) (chr : Memory) : State := { s with chrState := some chr }
def State.setSram (s : State) (sram : Memory) : State := { s with sramState := some sram }
def State.setApu (s : State) (apu : ApuState) : State := { s with apu := apu }
def State.setInbox (s : State) (inbox : SweepInbox) : State := { s with inbox := inbox }
def State.setSide (s : State) (side : Side) : State := { s with side := side }
def State.setOut (s : State) (out : Outputs) : State := { s with out := out }
def State.setPending (s : State) (pending : List Transaction) : State :=
  { s with pending := pending }

/-- The mapper of the block: `Cfg.mapperID` (rules R6, R20). -/
def State.mapperId (s : State) : MapperId := s.cfg.mapperId

/-- The PRG array: the block's where it is state, else that of `Cfg` (rules R6, R20). -/
def State.prg (s : State) : Memory := s.prgState.getD s.cfg.prg

/-- The CHR array: the block's where it is state, else that of `Cfg` (rules R6, R20). -/
def State.chr (s : State) : Memory := s.chrState.getD s.cfg.chr

/-- The static RAM: the block's where the mapper has it; no operation of another mapper reads it (rules R20,
R33). -/
def State.sram (s : State) : Memory := s.sramState.getD s.cfg.sramInit

/-! ### Answers -/

/-- The outputs of an operation that answers `resp`, signals nothing and emits nothing. -/
def Outputs.quiet (resp : Response) : Outputs where
  resp := resp
  ramWritten := false
  apuTick := false
  quarter := false
  half := false
  reloads := none

/-- The operation answers `resp` and signals nothing. -/
def State.answer (s : State) (resp : Response) : State := s.setOut (Outputs.quiet resp)

/-- The operation answers nothing and signals nothing. -/
def State.done (s : State) : State := s.answer .none

/-- A write that a mapper register or an APU register takes: the mapper's result is NotClaimed (rule
R66, D7; rule R92). -/
def State.registerWritten (s : State) : State := s.answer (.write .notClaimed)

/-! ### The cartridge around the mapper -/

/-- The byte the cartridge returns for a translation, none if it is not claimed (rules R161, R164). -/
def State.byteAt (s : State) (r : MapResult) : Option Byte :=
  match r with
  | .offset .prg off => some (Memory.read s.prg off)
  | .offset .chr off => some (Memory.read s.chr off)
  | .internalRead v => some v
  | .notClaimed => none
  | .internalWrite => none

/-- Cartridge `cpuRead` and `ppuRead` once the mapper has translated (rules R161, R164). -/
def State.finishRead (s : State) (r : MapResult) : State := s.answer (.read r (s.byteAt r))

/-- Cartridge `cpuWrite` once the mapper has translated (rule R162): PRG is written only when
`PRG_WRITABLE`; a write the static RAM absorbed raises `RamWritten`. -/
def State.finishCpuWrite (s : State) (r : MapResult) (data : Byte) : State :=
  match r with
  | .offset .prg off =>
    (if s.cfg.prgWritable then s.setPrg (Memory.write s.prg off data) else s).answer (.write r)
  | .internalWrite => s.setOut { Outputs.quiet (.write r) with ramWritten := true }
  | _ => s.answer (.write r)

/-- Cartridge `ppuWrite` once the mapper has translated (rule R165). -/
def State.finishPpuWrite (s : State) (r : MapResult) (data : Byte) : State :=
  match r with
  | .offset .chr off => (s.setChr (Memory.write s.chr off data)).answer (.write r)
  | _ => s.answer (.write r)

/-! ### Static RAM, mappers 1 and 4 -/

/-- A CPU read of static RAM (rules R193, R232). -/
def State.sramRead (s : State) (index : BitVec 13) : State :=
  s.finishRead (.internalRead (Memory.read s.sram index.toNat))

/-- A CPU write of static RAM (rules R194, R233). -/
def State.sramWrite (s : State) (index : BitVec 13) (value : Byte) : State :=
  (s.setSram (Memory.write s.sram index.toNat value)).finishCpuWrite .internalWrite value

/-! ### Which mapper the block has -/

/-- An operation of mapper 0's table; on another block it has no meaning (rule R92; log 5). -/
def onM0 (s : State) (next : State) : Result :=
  match s.map with
  | .m0 => .next next
  | _ => .refused .otherMapper

/-- An operation of mapper 1's table. -/
def onM1 (s : State) (next : M1State → State) : Result :=
  match s.map with
  | .m1 r => .next (next r)
  | _ => .refused .otherMapper

/-- An operation of mapper 2's table. -/
def onM2 (s : State) (next : M2State → State) : Result :=
  match s.map with
  | .m2 r => .next (next r)
  | _ => .refused .otherMapper

/-- An operation of mapper 3's table. -/
def onM3 (s : State) (next : M3State → State) : Result :=
  match s.map with
  | .m3 r => .next (next r)
  | _ => .refused .otherMapper

/-- An operation of mapper 4's table. -/
def onM4 (s : State) (next : M4State → State) : Result :=
  match s.map with
  | .m4 r => .next (next r)
  | _ => .refused .otherMapper

/-- An operation of mapper 9's table. -/
def onM9 (s : State) (next : M9State → State) : Result :=
  match s.map with
  | .m9 r => .next (next r)
  | _ => .refused .otherMapper

end Sys2Proof.Machine
end

