-- ==== Sys2Proof/Machine/Construct.lean ====
section
/-! DEFINITION. Building the block from a cartridge: the configuration-time refusals (rule R281) and
construction (rule R302). -/

namespace Sys2Proof.Machine

/-- What the loader hands over: the raw mapper ID, the parameters, and the three arrays (rule R6). -/
structure Cartridge where
  mapperID : Nat
  params : Params
  prg : List Byte
  chr : List Byte
  sramInit : List Byte
  deriving DecidableEq, Repr

/-- The configuration-time refusals (rule R281). Then no state exists and no operation is defined. -/
inductive ConfigRefusal where
  /-- `UnsupportedMapper(mapperID)`. -/
  | unsupportedMapper (mapperID : Nat)
  /-- `UnsupportedMapper(1, large)`: the undescribed 32-bank variant (rule R191). -/
  | unsupportedLargeMmc1
  /-- `InvalidConfig`. -/
  | invalidConfig
  deriving DecidableEq, Repr

/-- The largest MMC1 PRG the spec gives a meaning (rule R191). -/
def mmc1MaxPrgBanks : Nat := 16

/-- The conditions of rule R281, in the order of its table. -/
def checkCartridge (c : Cartridge) : Except ConfigRefusal MapperId :=
  match MapperId.ofNumber c.mapperID with
  | none => .error (.unsupportedMapper c.mapperID)
  | some m =>
    if c.params.prgBanks = 0 then .error .invalidConfig
    else if m = .m1 ∧ c.params.prgBanks > mmc1MaxPrgBanks then .error .unsupportedLargeMmc1
    else if c.prg.length ≠ c.params.prgSize ∨ c.chr.length ≠ c.params.chrSize then .error .invalidConfig
    else .ok m

/-- The configuration of a cartridge with the mapper `m` (rule R6): the contents of `CHR` are all zero when
there is no CHR bank (rule R34), and static RAM takes the first 0x8000 bytes (log 10). -/
def Cartridge.cfg (c : Cartridge) (m : MapperId) : Cfg where
  toParams := c.params
  mapperId := m
  prg := Memory.ofBytes c.prg
  chr := if c.params.chrBanks = 0 then [] else Memory.ofBytes c.chr
  sramInit := Memory.ofBytes (c.sramInit.take Cfg.sramSize)

/-- Construction: the configuration is made, then `Reset` and `ApuReset` are performed (rule R302). -/
def construct (c : Cartridge) : Except ConfigRefusal State :=
  match checkCartridge c with
  | .error e => .error e
  | .ok m => .ok ((Block.reset (c.cfg m)).under Environment.reset (c.cfg m))

end Sys2Proof.Machine
end

