-- ==== Sys2Proof/Machine/Mapper0.lean ====
section
/-! DEFINITION. Mapper 000, fixed (rules R180 to R187, R170). -/

namespace Sys2Proof.Machine

/-- `M0.CPU_READ` (rule R182). -/
def execM0CpuRead (within : BitVec 15) (s : State) : Result :=
  onM0 s (s.finishRead (prgResult s.cfg (fixedPrgRaw s.cfg within)))

/-- `M0.CPU_WRITE`: claimed at the read's offset (rule R183). -/
def execM0CpuWrite (within : BitVec 15) (value : Byte) (s : State) : Result :=
  onM0 s (s.finishCpuWrite (prgResult s.cfg (fixedPrgRaw s.cfg within)) value)

/-- `M0.PPU_READ` (rule R184). -/
def execM0PpuRead (within : BitVec 13) (s : State) : Result :=
  onM0 s (s.finishRead (chrResult s.cfg within.toNat))

/-- `M0.PPU_WRITE` (rule R185). -/
def execM0PpuWrite (within : BitVec 13) (value : Byte) (s : State) : Result :=
  onM0 s (s.finishPpuWrite (chrRamResult s.cfg within) value)

/-- `M0.RESET`: no state to restore (rule R186). -/
def execM0Reset (s : State) : Result := onM0 s s.done

/-- `M0.MIRROR_Q`: HARDWARE always (rule R187). -/
def execM0MirrorQ (s : State) : Result := onM0 s (s.answer (.mirror .hardware))

/-- `M0.SCANLINE`: no effect (rule R170). -/
def execM0Scanline (s : State) : Result := onM0 s s.done

/-- `M0.IRQ_STATE`: always false (rule R170). -/
def execM0IrqState (s : State) : Result := onM0 s (s.answer (.irq false))

/-- `M0.IRQ_CLEAR`: no effect (rule R170). -/
def execM0IrqClear (s : State) : Result := onM0 s s.done

end Sys2Proof.Machine
end

