-- ==== Sys2Proof/Machine/Mapper1.lean ====
section
/-! DEFINITION. Mapper 001, MMC1, serial-shift (rules R190 to R203, R170). -/

namespace Sys2Proof.Machine

/-! ### The serial port -/

/-- The five-bit value after one bit is shifted in at bit 4 (rules R73 (c), R195). -/
def M1State.shifted (r : M1State) (bit : BitVec 1) : BitVec 5 :=
  (r.sr >>> 1) ||| (bit.setWidth 5 <<< 4)

/-- The fifth bit commits the value to the register `addr[14:13]` selects, and the loader is empty
again (rule R195). -/
def M1State.commit (r : M1State) (target : BitVec 2) (value : BitVec 5) : M1State :=
  let loaded :=
    match target.toNat with
    | 0 => { r with ctrl := value }
    | 1 => { r with chr0 := value }
    | 2 => { r with chr1 := value }
    | _ => { r with prg := value }
  { loaded with sr := 0, cnt := 0 }

/-- An accepted write with `data[7]` = 0 (rule R195). -/
def M1State.shift (r : M1State) (bit : BitVec 1) (target : BitVec 2) : M1State :=
  let value := r.shifted bit
  if r.cnt = 4 then r.commit target value else { r with sr := value, cnt := r.cnt + 1 }

/-- An accepted write with `data[7]` = 1: the loader is empty and PRG mode becomes 3 (rule R196). -/
def M1State.serialReset (r : M1State) : M1State :=
  { r with sr := 0, cnt := 0, ctrl := r.ctrl ||| 0x0C#5 }

/-- Every write in $8000-$FFFF goes through the gate: `last_step` is remembered whether or not the
write is accepted (rule R197). -/
def M1State.gated (r : M1State) (g : Mmc1Gate) (step : Nat) (write : M1State → M1State) : M1State :=
  if gateAccepts g r.lastStep step then { write r with lastStep := step }
  else { r with lastStep := step }

/-- `M1.SERIAL_SHIFT` (rules R195, R197). -/
def execM1SerialShift (bit : BitVec 1) (target : BitVec 2) (s : State) : Result :=
  onM1 s fun r =>
    (s.setMap (.m1 (r.gated s.cfg.mmc1Accept s.side.cpuStep fun q => q.shift bit target))).registerWritten

/-- `M1.SERIAL_RESET` (rules R196, R197). -/
def execM1SerialReset (s : State) : Result :=
  onM1 s fun r =>
    (s.setMap (.m1 (r.gated s.cfg.mmc1Accept s.side.cpuStep M1State.serialReset))).registerWritten

/-! ### Translations and the rest -/

/-- `M1.SRAM_READ` (rule R193). -/
def execM1SramRead (index : BitVec 13) (s : State) : Result := onM1 s fun _ => s.sramRead index

/-- `M1.SRAM_WRITE` (rule R194). -/
def execM1SramWrite (index : BitVec 13) (value : Byte) (s : State) : Result :=
  onM1 s fun _ => s.sramWrite index value

/-- `M1.CPU_READ` (rule R198). -/
def execM1CpuRead (within : BitVec 15) (s : State) : Result :=
  onM1 s fun r => s.finishRead (prgResult s.cfg (m1PrgRaw s.cfg r within))

/-- `M1.PPU_READ` (rule R200). -/
def execM1PpuRead (within : BitVec 13) (s : State) : Result :=
  onM1 s fun r => s.finishRead (chrResult s.cfg (m1ChrRaw s.cfg r within))

/-- `M1.PPU_WRITE` (rule R201). -/
def execM1PpuWrite (within : BitVec 13) (value : Byte) (s : State) : Result :=
  onM1 s fun _ => s.finishPpuWrite (chrRamResult s.cfg within) value

/-- `M1.RESET` (rule R203). -/
def execM1Reset (s : State) : Result := onM1 s fun _ => (s.setMap (MapState.reset .m1 s.cfg)).done

/-- `M1.MIRROR_Q` (rule R202). -/
def execM1MirrorQ (s : State) : Result := onM1 s fun r => s.answer (.mirror (m1Mirror r.ctrl))

/-- `M1.SCANLINE`: no effect (rule R170). -/
def execM1Scanline (s : State) : Result := onM1 s fun _ => s.done

/-- `M1.IRQ_STATE`: always false (rule R170). -/
def execM1IrqState (s : State) : Result := onM1 s fun _ => s.answer (.irq false)

/-- `M1.IRQ_CLEAR`: no effect (rule R170). -/
def execM1IrqClear (s : State) : Result := onM1 s fun _ => s.done

end Sys2Proof.Machine
end

