-- ==== Sys2Proof/Machine/Mapper2.lean ====
section
/-! DEFINITION. Mapper 002, swappable-low, fixed-high (rules R210 to R217, R170). -/

namespace Sys2Proof.Machine

/-- `M2.BANK_SELECT` (rule R212). -/
def execM2BankSelect (bank : BitVec 4) (s : State) : Result :=
  onM2 s fun _ => (s.setMap (.m2 { prgLo := bank })).registerWritten

/-- `M2.CPU_READ` (rule R213). -/
def execM2CpuRead (within : BitVec 15) (s : State) : Result :=
  onM2 s fun r => s.finishRead (prgResult s.cfg (m2PrgRaw s.cfg r within))

/-- `M2.PPU_READ` (rule R214). -/
def execM2PpuRead (within : BitVec 13) (s : State) : Result :=
  onM2 s fun _ => s.finishRead (chrResult s.cfg within.toNat)

/-- `M2.PPU_WRITE` (rule R215). -/
def execM2PpuWrite (within : BitVec 13) (value : Byte) (s : State) : Result :=
  onM2 s fun _ => s.finishPpuWrite (chrRamResult s.cfg within) value

/-- `M2.RESET` (rule R216). -/
def execM2Reset (s : State) : Result := onM2 s fun _ => (s.setMap (MapState.reset .m2 s.cfg)).done

/-- `M2.MIRROR_Q`: HARDWARE always (rule R217). -/
def execM2MirrorQ (s : State) : Result := onM2 s fun _ => s.answer (.mirror .hardware)

/-- `M2.SCANLINE`: no effect (rule R170). -/
def execM2Scanline (s : State) : Result := onM2 s fun _ => s.done

/-- `M2.IRQ_STATE`: always false (rule R170). -/
def execM2IrqState (s : State) : Result := onM2 s fun _ => s.answer (.irq false)

/-- `M2.IRQ_CLEAR`: no effect (rule R170). -/
def execM2IrqClear (s : State) : Result := onM2 s fun _ => s.done

end Sys2Proof.Machine
end

