-- ==== Sys2Proof/Machine/Mapper3.lean ====
section
/-! DEFINITION. Mapper 003, fixed PRG, switchable CHR (rules R220 to R227, R170). -/

namespace Sys2Proof.Machine

/-- `M3.CHR_SELECT` (rule R222). -/
def execM3ChrSelect (bank : BitVec 2) (s : State) : Result :=
  onM3 s fun _ => (s.setMap (.m3 { chrSel := bank })).registerWritten

/-- `M3.CPU_READ` (rule R223). -/
def execM3CpuRead (within : BitVec 15) (s : State) : Result :=
  onM3 s fun _ => s.finishRead (prgResult s.cfg (fixedPrgRaw s.cfg within))

/-- `M3.PPU_READ` (rule R224). -/
def execM3PpuRead (within : BitVec 13) (s : State) : Result :=
  onM3 s fun r => s.finishRead (chrResult s.cfg (m3ChrRaw r within))

/-- `M3.PPU_WRITE`: never claimed, no effect (rule R225). -/
def execM3PpuWrite (_within : BitVec 13) (value : Byte) (s : State) : Result :=
  onM3 s fun _ => s.finishPpuWrite .notClaimed value

/-- `M3.RESET` (rule R226). -/
def execM3Reset (s : State) : Result := onM3 s fun _ => (s.setMap (MapState.reset .m3 s.cfg)).done

/-- `M3.MIRROR_Q`: HARDWARE always (rule R227). -/
def execM3MirrorQ (s : State) : Result := onM3 s fun _ => s.answer (.mirror .hardware)

/-- `M3.SCANLINE`: no effect (rule R170). -/
def execM3Scanline (s : State) : Result := onM3 s fun _ => s.done

/-- `M3.IRQ_STATE`: always false (rule R170). -/
def execM3IrqState (s : State) : Result := onM3 s fun _ => s.answer (.irq false)

/-- `M3.IRQ_CLEAR`: no effect (rule R170). -/
def execM3IrqClear (s : State) : Result := onM3 s fun _ => s.done

end Sys2Proof.Machine
end

