-- ==== Sys2Proof/Machine/Mapper4.lean ====
section
/-! DEFINITION. Mapper 004, MMC3, bank file with scanline IRQ (rules R230 to R250). -/

namespace Sys2Proof.Machine

/-- A register write of mapper 4: the registers change, the result is NotClaimed (rule R231). -/
def m4Register (s : State) (change : M4State → M4State) : Result :=
  onM4 s fun r => (s.setMap (.m4 (change r))).registerWritten

/-- `M4.SRAM_READ` (rule R232). -/
def execM4SramRead (index : BitVec 13) (s : State) : Result := onM4 s fun _ => s.sramRead index

/-- `M4.SRAM_WRITE` (rule R233). -/
def execM4SramWrite (index : BitVec 13) (value : Byte) (s : State) : Result :=
  onM4 s fun _ => s.sramWrite index value

/-- `M4.BANK_SELECT`: the latched offsets do not move (rules R234, R30). -/
def execM4BankSelect (chrInv prgMode : Bool) (target : BitVec 3) (s : State) : Result :=
  m4Register s fun r => { r with target := target, prgMode := prgMode, chrInv := chrInv }

/-- `R[target] <- data`, then `Recompute()` with the current flags (rule R235). -/
def M4State.loadBank (prgBanks : Nat) (r : M4State) (value : Byte) : M4State :=
  M4State.recompute prgBanks { r with bank := r.bank.set r.target.toNat value r.target.isLt }

/-- `M4.BANK_DATA` (rule R235). -/
def execM4BankData (value : Byte) (s : State) : Result :=
  m4Register s fun r => r.loadBank s.cfg.prgBanks value

/-- `M4.MIRROR` (rule R236). -/
def execM4Mirror (horizontal : Bool) (s : State) : Result :=
  m4Register s fun r => { r with mirror := mirrorOfBit horizontal }

/-- `M4.RAM_PROTECT`: no effect (rule R237). -/
def execM4RamProtect (s : State) : Result := m4Register s fun r => r

/-- `M4.IRQ_LATCH` (rule R238). -/
def execM4IrqLatch (reload : Byte) (s : State) : Result :=
  m4Register s fun r => { r with irqReload := reload }

/-- `M4.IRQ_RELOAD` (rule R239). -/
def execM4IrqReload (s : State) : Result := m4Register s fun r => { r with irqCounter := 0 }

/-- `M4.IRQ_DISABLE`: a pending request is acknowledged (rule R240). -/
def execM4IrqDisable (s : State) : Result :=
  m4Register s fun r => { r with irqEnable := false, irqActive := false }

/-- `M4.IRQ_ENABLE` (rule R241). -/
def execM4IrqEnable (s : State) : Result := m4Register s fun r => { r with irqEnable := true }

/-- `M4.CPU_READ` (rule R242). -/
def execM4CpuRead (within : BitVec 15) (s : State) : Result :=
  onM4 s fun r => s.finishRead (prgResult s.cfg (m4PrgRaw r within))

/-- `M4.PPU_READ` (rule R243). -/
def execM4PpuRead (within : BitVec 13) (s : State) : Result :=
  onM4 s fun r => s.finishRead (chrResult s.cfg (m4ChrRaw r within))

/-- `M4.PPU_WRITE`: never claimed, no effect (rule R244). -/
def execM4PpuWrite (_within : BitVec 13) (value : Byte) (s : State) : Result :=
  onM4 s fun _ => s.finishPpuWrite .notClaimed value

/-- `M4.SCANLINE` (rule R245). -/
def execM4Scanline (s : State) : Result :=
  onM4 s fun r => (s.setMap (.m4 r.scanline)).done

/-- `M4.IRQ_STATE` (rule R246). -/
def execM4IrqState (s : State) : Result := onM4 s fun r => s.answer (.irq r.irqActive)

/-- `M4.IRQ_CLEAR` (rule R247). -/
def execM4IrqClear (s : State) : Result :=
  onM4 s fun r => (s.setMap (.m4 r.clearRequest)).done

/-- `M4.RESET` (rule R248). -/
def execM4Reset (s : State) : Result := onM4 s fun _ => (s.setMap (MapState.reset .m4 s.cfg)).done

/-- `M4.MIRROR_Q` (rule R249). -/
def execM4MirrorQ (s : State) : Result := onM4 s fun r => s.answer (.mirror r.mirror)

end Sys2Proof.Machine
end

