-- ==== Sys2Proof/Machine/Mapper9.lean ====
section
/-! DEFINITION. Mapper 009, MMC2, CHR latches driven by the fetch address (rules R260 to R273,
R170). -/

namespace Sys2Proof.Machine

/-- A register write of mapper 9: the registers change, the result is NotClaimed (rule R261). -/
def m9Register (s : State) (change : M9State → M9State) : Result :=
  onM9 s fun r => (s.setMap (.m9 (change r))).registerWritten

/-- The latch a PPU read moves, by address bits 12 to 4; outside the four ranges none moves (rule R268,
step 2). -/
def M9State.moveLatch (r : M9State) (within : BitVec 13) : M9State :=
  let block := within.extractLsb' 4 9
  if block = 0x0FD#9 then { r with latch0 := .fd }
  else if block = 0x0FE#9 then { r with latch0 := .fe }
  else if block = 0x1FD#9 then { r with latch1 := .fd }
  else if block = 0x1FE#9 then { r with latch1 := .fe }
  else r

/-- A PPU read of mapper 9: translated with the latches as they are before it, then a latch moves
(rule R268). -/
def m9PpuRead (s : State) (within : BitVec 13) : Result :=
  onM9 s fun r =>
    (s.finishRead (chrResult s.cfg (m9ChrRaw r within))).setMap (.m9 (r.moveLatch within))

/-- `M9.CPU_READ` (rule R262). -/
def execM9CpuRead (within : BitVec 15) (s : State) : Result :=
  onM9 s fun r => s.finishRead (prgResult s.cfg (m9PrgRaw s.cfg r within))

/-- `M9.NOP_WRITE`: no register, no effect (rule R270). -/
def execM9NopWrite (s : State) : Result := m9Register s fun r => r

/-- `M9.PRG_SELECT` (rule R263). -/
def execM9PrgSelect (bank : BitVec 4) (s : State) : Result :=
  m9Register s fun r => { r with prgSel := bank }

/-- `M9.CHR_FD0` (rule R264). -/
def execM9ChrFd0 (bank : BitVec 5) (s : State) : Result :=
  m9Register s fun r => { r with chrFd0 := bank }

/-- `M9.CHR_FE0` (rule R265). -/
def execM9ChrFe0 (bank : BitVec 5) (s : State) : Result :=
  m9Register s fun r => { r with chrFe0 := bank }

/-- `M9.CHR_FD1` (rule R266). -/
def execM9ChrFd1 (bank : BitVec 5) (s : State) : Result :=
  m9Register s fun r => { r with chrFd1 := bank }

/-- `M9.CHR_FE1` (rule R267). -/
def execM9ChrFe1 (bank : BitVec 5) (s : State) : Result :=
  m9Register s fun r => { r with chrFe1 := bank }

/-- `M9.MIRROR` (rule R269). -/
def execM9Mirror (horizontal : Bool) (s : State) : Result :=
  m9Register s fun r => { r with mirror := mirrorOfBit horizontal }

/-- `M9.PPU_READ_FD0`: PPU $0FD0-$0FDF (rule R268). -/
def execM9PpuReadFd0 (low : BitVec 4) (s : State) : Result :=
  m9PpuRead s (0x0FD#9 ++ low)

/-- `M9.PPU_READ_FE0`: PPU $0FE0-$0FEF (rule R268). -/
def execM9PpuReadFe0 (low : BitVec 4) (s : State) : Result :=
  m9PpuRead s (0x0FE#9 ++ low)

/-- `M9.PPU_READ_FD1`: PPU $1FD0-$1FDF (rule R268). -/
def execM9PpuReadFd1 (low : BitVec 4) (s : State) : Result :=
  m9PpuRead s (0x1FD#9 ++ low)

/-- `M9.PPU_READ_FE1`: PPU $1FE0-$1FEF (rule R268). -/
def execM9PpuReadFe1 (low : BitVec 4) (s : State) : Result :=
  m9PpuRead s (0x1FE#9 ++ low)

/-- `M9.PPU_READ`: every other address below $2000; no latch moves (rule R268). -/
def execM9PpuRead (within : BitVec 13) (s : State) : Result := m9PpuRead s within

/-- `M9.PPU_WRITE`: never claimed; a write moves no latch (rule R271). -/
def execM9PpuWrite (_within : BitVec 13) (value : Byte) (s : State) : Result :=
  onM9 s fun _ => s.finishPpuWrite .notClaimed value

/-- `M9.RESET` (rule R273). -/
def execM9Reset (s : State) : Result := onM9 s fun _ => (s.setMap (MapState.reset .m9 s.cfg)).done

/-- `M9.MIRROR_Q` (rule R272). -/
def execM9MirrorQ (s : State) : Result := onM9 s fun r => s.answer (.mirror r.mirror)

/-- `M9.SCANLINE`: no effect (rule R170). -/
def execM9Scanline (s : State) : Result := onM9 s fun _ => s.done

/-- `M9.IRQ_STATE`: always false (rule R170). -/
def execM9IrqState (s : State) : Result := onM9 s fun _ => s.answer (.irq false)

/-- `M9.IRQ_CLEAR`: no effect (rule R170). -/
def execM9IrqClear (s : State) : Result := onM9 s fun _ => s.done

end Sys2Proof.Machine
end

