-- ==== Sys2Proof/Machine/Mixer.lean ====
section
/-! DEFINITION. The APU non-linear mixer (rules R150 to R157), over exact rationals (rule R155). -/

namespace Sys2Proof.Machine

/-- A muted channel contributes 0 (rule R151). -/
def muted (audible : Bool) (sample : Rat) : Rat := if audible then sample else 0

/-- The operands after muting (rule R151). -/
def afterMute (o : MixOperands) : MixOperands :=
  { o with p1 := muted o.uP1 o.p1, p2 := muted o.uP2 o.p2, t := muted o.uT o.t, n := muted o.uN o.n }

/-- The numerics of exact arithmetic (rule R155). -/
def exactNumerics : Numerics Rat where
  ofRat := fun q => q
  isZero := fun q => q == 0
  add := fun a b => a + b
  div := fun a b => a / b
  mul := fun a b => a * b

/-- The numerics of an implementation: three free values over the sample type (rules R6, R155). -/
def implementationNumerics : Numerics Sample where
  ofRat := .real
  isZero := fun v => v == .real 0
  add := Config.mixAdd
  div := Config.mixDiv
  mul := Config.mixMul

/-- `pulse_out`; a zero sum gives 0 (rules R152, R153). -/
def pulseOut {α : Type} (n : Numerics α) (k : MixConstants) (sum : α) : α :=
  if n.isZero sum then n.ofRat 0
  else n.div (n.ofRat k.pulseScale) (n.add (n.div (n.ofRat k.pulseNumerator) sum) (n.ofRat k.base))

/-- `tnd_out`; a zero sum gives 0 (rules R152, R153). -/
def tndOut {α : Type} (n : Numerics α) (k : MixConstants) (sum : α) : α :=
  if n.isZero sum then n.ofRat 0
  else n.div (n.ofRat k.tndScale) (n.add (n.div (n.ofRat 1) sum) (n.ofRat k.base))

/-- `output`, on the operands after muting, in the arithmetic `n` (rules R152, R155). -/
def mixIn {α : Type} (n : Numerics α) (k : MixConstants) (o : MixOperands) : α :=
  n.mul
    (n.add (pulseOut n k (n.add (n.ofRat o.p1) (n.ofRat o.p2)))
      (tndOut n k
        (n.add (n.div (n.ofRat o.t) (n.ofRat k.triangleDivisor))
          (n.div (n.ofRat o.n) (n.ofRat k.noiseDivisor)))))
    (n.ofRat k.gain)

/-- `output` in exact arithmetic (rule R152). -/
def mixExact (k : MixConstants) (o : MixOperands) : Rat := mixIn exactNumerics k o

/-- The domain of the rules, on the operands after muting (rule R154). -/
def mixInDomain (o : MixOperands) : Bool := 0 ≤ o.p1 && 0 ≤ o.p2 && 0 ≤ o.t && 0 ≤ o.n

/-- The sample `Mix` returns: the free value of rule R154 outside the domain, and `output` in the
arithmetic that `MIX_ARITH` names on it (rules R152, R155; log 9). -/
def mixSample (c : Cfg) (o : MixOperands) : Sample :=
  let heard := afterMute o
  if mixInDomain heard then
    match c.mixArith with
    | .exact => .real (mixExact mixConstants heard)
    | .implementation => mixIn implementationNumerics mixConstants heard
  else Config.mixOutsideDomain heard

/-- `APU.MIX`: reads and writes no state of the block (rule R150). -/
def execApuMix (s : State) : Result := .next (s.answer (.sample (mixSample s.cfg s.side.mix)))

end Sys2Proof.Machine
end

