-- ==== Sys2Proof/Machine/Apu.lean ====
section
/-! DEFINITION. The clocked units of the APU and the register writes that feed them (rules R120 to
R142), and `ApuReset` (rule R301). -/

namespace Sys2Proof.Machine

/-! ### The clocked units -/

/-- `EnvClock(e, loop)`: one quarter-frame clock of an envelope unit (rule R121). -/
def Envelope.clock (e : Envelope) (loop : Bool) : Envelope :=
  if e.start then
    { e with start := false, decay := 15, divider := e.volume }
  else if e.divider = 0 then
    { e with
      divider := e.volume
      decay := if e.decay = 0 then (if loop then 15 else 0) else e.decay - 1 }
  else
    { e with divider := e.divider - 1 }

/-- `LenClock(l, enable, halt)`: one half-frame clock of a length counter (rule R123). -/
def lenClock (counter : Byte) (enable halt : Bool) : Byte :=
  if !enable then 0
  else if counter ≠ 0 ∧ halt = false then counter - 1
  else counter

/-- `LinearClock()`: the triangle linear counter's quarter-frame clock (rule R133). -/
def ApuState.linearClock (a : ApuState) : ApuState :=
  { a with
    linCounter :=
      if a.linReloadFlag then a.linReload
      else if a.linCounter ≠ 0 then a.linCounter - 1
      else 0
    linReloadFlag := a.linReloadFlag && a.haltT }

/-- `SweepClock(s)`, uninterpreted, from the unit, the parameter bytes handed to it and the pulse timer's
reload value to the unit and the reload value (rules R134, R138); the unit's `mute` bit is set by the
reload value it returns (rule R135; log 8). -/
def sweepClock (sweep : SweepState) (channel : PulseChannel) (bytes : List Byte) (reload : Nat) :
    SweepState × Nat :=
  let after := Config.sweepClock channel sweep bytes reload
  ({ after.1 with mute := sweepMute after.2 }, after.2)

/-! ### Register writes -/

/-- An APU register write: the mapper answers NotClaimed and the APU takes the byte (rule R92). -/
def apuRegister (s : State) (change : ApuState → ApuState) : Result :=
  .next (s.setApu (change s.apu)).registerWritten

/-- The fields an envelope write changes (rules R124 to R126). -/
def Envelope.configure (e : Envelope) (constant : Bool) (volume : BitVec 4) : Envelope :=
  { e with disable := constant, volume := volume }

/-- The envelope restarts at its next quarter-frame clock (rules R127, R128, R130). -/
def Envelope.restart (e : Envelope) : Envelope := { e with start := true }

/-- `LENGTH_TABLE[index]` (rules R127, R131). -/
def tableLength (c : Cfg) (index : BitVec 5) : Byte :=
  c.lengthTable[index.toNat]'index.isLt

/-- `APU.P1_ENV`; the duty field goes to the generator outside the block (rule R124). -/
def execApuP1Env (_duty : BitVec 2) (halt constant : Bool) (volume : BitVec 4) (s : State) : Result :=
  apuRegister s fun a => { a with haltP1 := halt, envP1 := a.envP1.configure constant volume }

/-- `APU.P2_ENV` (rule R125). -/
def execApuP2Env (_duty : BitVec 2) (halt constant : Bool) (volume : BitVec 4) (s : State) : Result :=
  apuRegister s fun a => { a with haltP2 := halt, envP2 := a.envP2.configure constant volume }

/-- `APU.NOI_ENV` (rule R126). -/
def execApuNoiEnv (halt constant : Bool) (volume : BitVec 4) (s : State) : Result :=
  apuRegister s fun a => { a with haltN := halt, envN := a.envN.configure constant volume }

/-- `APU.P1_LEN`; the timer bits go to the generator outside the block (rule R127). -/
def execApuP1Len (index : BitVec 5) (_timerHigh : BitVec 3) (s : State) : Result :=
  apuRegister s fun a => { a with lenP1 := tableLength s.cfg index, envP1 := a.envP1.restart }

/-- `APU.P2_LEN` (rule R128). -/
def execApuP2Len (index : BitVec 5) (_timerHigh : BitVec 3) (s : State) : Result :=
  apuRegister s fun a => { a with lenP2 := tableLength s.cfg index, envP2 := a.envP2.restart }

/-- `APU.TRI_LEN`: the linear counter's reload flag is set (rule R129). -/
def execApuTriLen (index : BitVec 5) (_timerHigh : BitVec 3) (s : State) : Result :=
  apuRegister s fun a => { a with lenT := tableLength s.cfg index, linReloadFlag := true }

/-- `APU.NOI_LEN` (rule R130). -/
def execApuNoiLen (index : BitVec 5) (s : State) : Result :=
  apuRegister s fun a => { a with lenN := tableLength s.cfg index, envN := a.envN.restart }

/-- `APU.TRI_LINEAR` (rule R132). -/
def execApuTriLinear (halt : Bool) (reload : BitVec 7) (s : State) : Result :=
  apuRegister s fun a => { a with haltT := halt, linReload := reload }

/-- A sweep-parameter write: no effect on the block's own state (rule R97 (d)); the byte goes to the
opaque sweep unit (rule R138; log 8). -/
def State.handSweep (s : State) (inbox : SweepInbox) : Result := .next (s.setInbox inbox).registerWritten

/-- `APU.P1_SWEEP` (rules R97 (d), R138). -/
def execApuP1Sweep (value : Byte) (s : State) : Result :=
  s.handSweep { s.inbox with p1 := s.inbox.p1 ++ [value] }

/-- `APU.P2_SWEEP` (rules R97 (d), R138). -/
def execApuP2Sweep (value : Byte) (s : State) : Result :=
  s.handSweep { s.inbox with p2 := s.inbox.p2 ++ [value] }

/-- `APU.P1_TLO`: consumed by the generator outside the block (rule R139). -/
def execApuP1Tlo (_value : Byte) (s : State) : Result := apuRegister s fun a => a

/-- `APU.P2_TLO`: consumed by the generator outside the block (rule R139). -/
def execApuP2Tlo (_value : Byte) (s : State) : Result := apuRegister s fun a => a

/-- `APU.TRI_TLO`: consumed by the generator outside the block (rule R139). -/
def execApuTriTlo (_value : Byte) (s : State) : Result := apuRegister s fun a => a

/-- `APU.NOI_PERIOD`: consumed by the generator outside the block (rule R140). -/
def execApuNoiPeriod (_value : Byte) (s : State) : Result := apuRegister s fun a => a

/-- `APU.UNUSED_4009`: no function, no effect (rule R141). -/
def execApuUnused4009 (_value : Byte) (s : State) : Result := apuRegister s fun a => a

/-- `APU.UNUSED_400D`: no function, no effect (rule R141). -/
def execApuUnused400d (_value : Byte) (s : State) : Result := apuRegister s fun a => a

/-- `APU.DMC0` (rule R142). -/
def execApuDmc0 (value : Byte) (s : State) : Result :=
  apuRegister s fun a => { a with dmcReg := a.dmcReg.set 0 value }

/-- `APU.DMC1` (rule R142). -/
def execApuDmc1 (value : Byte) (s : State) : Result :=
  apuRegister s fun a => { a with dmcReg := a.dmcReg.set 1 value }

/-- `APU.DMC2` (rule R142). -/
def execApuDmc2 (value : Byte) (s : State) : Result :=
  apuRegister s fun a => { a with dmcReg := a.dmcReg.set 2 value }

/-- `APU.DMC3` (rule R142). -/
def execApuDmc3 (value : Byte) (s : State) : Result :=
  apuRegister s fun a => { a with dmcReg := a.dmcReg.set 3 value }

/-- `APU.STATUS`: the five enables; no counter changes at the write (rule R136). -/
def execApuStatus (dmc noise triangle pulse2 pulse1 : Bool) (s : State) : Result :=
  apuRegister s fun a =>
    { a with enP1 := pulse1, enP2 := pulse2, enT := triangle, enN := noise, enDmc := dmc }

/-- `APU.FRAME`: accepted, no effect (rule R137). -/
def execApuFrame (_value : Byte) (s : State) : Result := apuRegister s fun a => a

/-- `APU.RESET`: every APU field returns to its reset value, the sweep units to their initial value;
mapper state is not touched (rules R47, R301). -/
def execApuReset (s : State) : Result :=
  .next ((s.setApu ApuState.reset).setInbox SweepInbox.empty).done

end Sys2Proof.Machine
end

