-- ==== Sys2Proof/Machine/Sequencer.lean ====
section
/-! DEFINITION. The APU frame sequencer (rules R110 to R116). -/

namespace Sys2Proof.Machine

/-- `QuarterFrame`: the three envelopes and the linear counter (rule R113). -/
def ApuState.quarterFrame (a : ApuState) : ApuState :=
  ApuState.linearClock
    { a with
      envP1 := a.envP1.clock a.haltP1
      envP2 := a.envP2.clock a.haltP2
      envN := a.envN.clock a.haltN }

/-- The two sweep units and reload values after `SweepClock` (rules R114, R134): the parameter bytes in
`inbox` and the timers' reload values in `side` come from outside the block. -/
def ApuState.sweepsClocked (a : ApuState) (inbox : SweepInbox) (side : Side) :
    (SweepState × Nat) × (SweepState × Nat) :=
  (sweepClock a.sweepP1 .p1 inbox.p1 side.reloadP1, sweepClock a.sweepP2 .p2 inbox.p2 side.reloadP2)

/-- `HalfFrame`: the four length counters and the two sweep units (rules R114, R134). -/
def ApuState.halfFrame (a : ApuState) (inbox : SweepInbox) (side : Side) : ApuState :=
  { a with
    lenP1 := lenClock a.lenP1 a.enP1 a.haltP1
    lenP2 := lenClock a.lenP2 a.enP2 a.haltP2
    lenT := lenClock a.lenT a.enT a.haltT
    lenN := lenClock a.lenN a.enN a.haltN
    sweepP1 := (a.sweepsClocked inbox side).1.1
    sweepP2 := (a.sweepsClocked inbox side).2.1 }

/-- The timer reload values that the two sweep units return at a half-frame event to the pulse timers
outside the block (rule R134). -/
def ApuState.sweepReloads (a : ApuState) (inbox : SweepInbox) (side : Side) : Nat × Nat :=
  ((a.sweepsClocked inbox side).1.2, (a.sweepsClocked inbox side).2.2)

/-- Whether a count, after the increment, fires a quarter-frame event (rule R112). -/
def firesQuarter (count : Nat) : Bool :=
  count == firstQuarterCount || count == firstHalfCount || count == secondQuarterCount ||
    count == lastCount

/-- Whether a count, after the increment, fires a half-frame event (rule R112). -/
def firesHalf (count : Nat) : Bool := count == firstHalfCount || count == lastCount

/-- `fc` after an APU tick that counted to `count` (rule R112). -/
def wrapCount (count : Nat) : Nat := if count = lastCount then 0 else count

/-- `ApuTick` on the APU state: the count, then the quarter-frame event, then the half-frame event
(rule R112). -/
def ApuState.apuTick (a : ApuState) (inbox : SweepInbox) (side : Side) : ApuState :=
  let count := a.fc + 1
  let counted := { a with fc := wrapCount count }
  let afterQuarter := if firesQuarter count then counted.quarterFrame else counted
  if firesHalf count then afterQuarter.halfFrame inbox side else afterQuarter

/-- The parameter bytes left to the sweep units after an `ApuTick` that counted to `count`: their clock
consumes them (rules R114, R138). -/
def inboxAfter (inbox : SweepInbox) (count : Nat) : SweepInbox :=
  if firesHalf count then SweepInbox.empty else inbox

/-- The outputs of an operation that runs one `ApuTick`; `emitted` says whether the operation emitted it
(rules R111, R112). A quarter-frame event moves no sweep unit, so the units before it are those that a
half-frame event clocks. -/
def tickOutputs (emitted : Bool) (s : State) : Outputs :=
  { Outputs.quiet .none with
    apuTick := emitted
    quarter := firesQuarter (s.apu.fc + 1)
    half := firesHalf (s.apu.fc + 1)
    reloads := if firesHalf (s.apu.fc + 1) then some (s.apu.sweepReloads s.inbox s.side) else none }

/-- The state after one `ApuTick`; `emitted` as in `tickOutputs` (rules R111, R112). -/
def State.ticked (s : State) (emitted : Bool) : State :=
  ((s.setApu (s.apu.apuTick s.inbox s.side)).setInbox (inboxAfter s.inbox (s.apu.fc + 1))).setOut
    (tickOutputs emitted s)

/-- The state with one system tick counted (rule R111). -/
def State.countTick (s : State) : State := s.setApu { s.apu with tick := s.apu.tick + 1 }

/-- `SYS.TICK`: `tick` is tested before it is incremented (rule R111). -/
def execSysTick (s : State) : Result :=
  if s.apu.tick % apuTickDivisor = 0 then .next (s.ticked true).countTick else .next s.countTick.done

/-- `APU.TICK` (rule R112). -/
def execApuTick (s : State) : Result := .next (s.ticked false)

/-- `APU.QUARTER` (rule R113). -/
def execApuQuarter (s : State) : Result := .next (s.setApu s.apu.quarterFrame).done

/-- `APU.HALF` (rule R114). -/
def execApuHalf (s : State) : Result :=
  .next (((s.setApu (s.apu.halfFrame s.inbox s.side)).setInbox SweepInbox.empty).setOut
    { Outputs.quiet .none with reloads := some (s.apu.sweepReloads s.inbox s.side) })

end Sys2Proof.Machine
end

