-- ==== Sys2Proof/Machine/Dispatch.lean ====
section
/-! DEFINITION. One arm per instruction: the meaning it has. -/

namespace Sys2Proof.Machine

/-- The meaning of an instruction in a state. -/
def exec (i : Instr) (s : State) : Host.Outcome State Fault Refusal :=
  match i with
  | .m0CpuRead within => Sys2Proof.Machine.execM0CpuRead within s
  | .m0CpuWrite within value => Sys2Proof.Machine.execM0CpuWrite within value s
  | .m0PpuRead within => Sys2Proof.Machine.execM0PpuRead within s
  | .m0PpuWrite within value => Sys2Proof.Machine.execM0PpuWrite within value s
  | .m1SramRead index => Sys2Proof.Machine.execM1SramRead index s
  | .m1SramWrite index value => Sys2Proof.Machine.execM1SramWrite index value s
  | .m1SerialReset => Sys2Proof.Machine.execM1SerialReset s
  | .m1SerialShift bit target => Sys2Proof.Machine.execM1SerialShift bit target s
  | .m1CpuRead within => Sys2Proof.Machine.execM1CpuRead within s
  | .m1PpuRead within => Sys2Proof.Machine.execM1PpuRead within s
  | .m1PpuWrite within value => Sys2Proof.Machine.execM1PpuWrite within value s
  | .m2BankSelect bank => Sys2Proof.Machine.execM2BankSelect bank s
  | .m2CpuRead within => Sys2Proof.Machine.execM2CpuRead within s
  | .m2PpuRead within => Sys2Proof.Machine.execM2PpuRead within s
  | .m2PpuWrite within value => Sys2Proof.Machine.execM2PpuWrite within value s
  | .m3ChrSelect bank => Sys2Proof.Machine.execM3ChrSelect bank s
  | .m3CpuRead within => Sys2Proof.Machine.execM3CpuRead within s
  | .m3PpuRead within => Sys2Proof.Machine.execM3PpuRead within s
  | .m3PpuWrite within value => Sys2Proof.Machine.execM3PpuWrite within value s
  | .m4SramRead index => Sys2Proof.Machine.execM4SramRead index s
  | .m4SramWrite index value => Sys2Proof.Machine.execM4SramWrite index value s
  | .m4BankSelect chrInv prgMode target => Sys2Proof.Machine.execM4BankSelect chrInv prgMode target s
  | .m4BankData value => Sys2Proof.Machine.execM4BankData value s
  | .m4Mirror horizontal => Sys2Proof.Machine.execM4Mirror horizontal s
  | .m4RamProtect => Sys2Proof.Machine.execM4RamProtect s
  | .m4IrqLatch reload => Sys2Proof.Machine.execM4IrqLatch reload s
  | .m4IrqReload => Sys2Proof.Machine.execM4IrqReload s
  | .m4IrqDisable => Sys2Proof.Machine.execM4IrqDisable s
  | .m4IrqEnable => Sys2Proof.Machine.execM4IrqEnable s
  | .m4CpuRead within => Sys2Proof.Machine.execM4CpuRead within s
  | .m4PpuRead within => Sys2Proof.Machine.execM4PpuRead within s
  | .m4PpuWrite within value => Sys2Proof.Machine.execM4PpuWrite within value s
  | .m9CpuRead within => Sys2Proof.Machine.execM9CpuRead within s
  | .m9NopWrite => Sys2Proof.Machine.execM9NopWrite s
  | .m9PrgSelect bank => Sys2Proof.Machine.execM9PrgSelect bank s
  | .m9ChrFd0 bank => Sys2Proof.Machine.execM9ChrFd0 bank s
  | .m9ChrFe0 bank => Sys2Proof.Machine.execM9ChrFe0 bank s
  | .m9ChrFd1 bank => Sys2Proof.Machine.execM9ChrFd1 bank s
  | .m9ChrFe1 bank => Sys2Proof.Machine.execM9ChrFe1 bank s
  | .m9Mirror horizontal => Sys2Proof.Machine.execM9Mirror horizontal s
  | .m9PpuReadFd0 low => Sys2Proof.Machine.execM9PpuReadFd0 low s
  | .m9PpuReadFe0 low => Sys2Proof.Machine.execM9PpuReadFe0 low s
  | .m9PpuReadFd1 low => Sys2Proof.Machine.execM9PpuReadFd1 low s
  | .m9PpuReadFe1 low => Sys2Proof.Machine.execM9PpuReadFe1 low s
  | .m9PpuRead within => Sys2Proof.Machine.execM9PpuRead within s
  | .m9PpuWrite within value => Sys2Proof.Machine.execM9PpuWrite within value s
  | .m0Reset => Sys2Proof.Machine.execM0Reset s
  | .m0MirrorQ => Sys2Proof.Machine.execM0MirrorQ s
  | .m0Scanline => Sys2Proof.Machine.execM0Scanline s
  | .m0IrqState => Sys2Proof.Machine.execM0IrqState s
  | .m0IrqClear => Sys2Proof.Machine.execM0IrqClear s
  | .m1Reset => Sys2Proof.Machine.execM1Reset s
  | .m1MirrorQ => Sys2Proof.Machine.execM1MirrorQ s
  | .m1Scanline => Sys2Proof.Machine.execM1Scanline s
  | .m1IrqState => Sys2Proof.Machine.execM1IrqState s
  | .m1IrqClear => Sys2Proof.Machine.execM1IrqClear s
  | .m2Reset => Sys2Proof.Machine.execM2Reset s
  | .m2MirrorQ => Sys2Proof.Machine.execM2MirrorQ s
  | .m2Scanline => Sys2Proof.Machine.execM2Scanline s
  | .m2IrqState => Sys2Proof.Machine.execM2IrqState s
  | .m2IrqClear => Sys2Proof.Machine.execM2IrqClear s
  | .m3Reset => Sys2Proof.Machine.execM3Reset s
  | .m3MirrorQ => Sys2Proof.Machine.execM3MirrorQ s
  | .m3Scanline => Sys2Proof.Machine.execM3Scanline s
  | .m3IrqState => Sys2Proof.Machine.execM3IrqState s
  | .m3IrqClear => Sys2Proof.Machine.execM3IrqClear s
  | .m4Reset => Sys2Proof.Machine.execM4Reset s
  | .m4MirrorQ => Sys2Proof.Machine.execM4MirrorQ s
  | .m4Scanline => Sys2Proof.Machine.execM4Scanline s
  | .m4IrqState => Sys2Proof.Machine.execM4IrqState s
  | .m4IrqClear => Sys2Proof.Machine.execM4IrqClear s
  | .m9Reset => Sys2Proof.Machine.execM9Reset s
  | .m9MirrorQ => Sys2Proof.Machine.execM9MirrorQ s
  | .m9Scanline => Sys2Proof.Machine.execM9Scanline s
  | .m9IrqState => Sys2Proof.Machine.execM9IrqState s
  | .m9IrqClear => Sys2Proof.Machine.execM9IrqClear s
  | .apuP1Env duty halt constant volume => Sys2Proof.Machine.execApuP1Env duty halt constant volume s
  | .apuP1Sweep value => Sys2Proof.Machine.execApuP1Sweep value s
  | .apuP1Tlo value => Sys2Proof.Machine.execApuP1Tlo value s
  | .apuP1Len index timerHigh => Sys2Proof.Machine.execApuP1Len index timerHigh s
  | .apuP2Env duty halt constant volume => Sys2Proof.Machine.execApuP2Env duty halt constant volume s
  | .apuP2Sweep value => Sys2Proof.Machine.execApuP2Sweep value s
  | .apuP2Tlo value => Sys2Proof.Machine.execApuP2Tlo value s
  | .apuP2Len index timerHigh => Sys2Proof.Machine.execApuP2Len index timerHigh s
  | .apuTriLinear halt reload => Sys2Proof.Machine.execApuTriLinear halt reload s
  | .apuUnused4009 value => Sys2Proof.Machine.execApuUnused4009 value s
  | .apuTriTlo value => Sys2Proof.Machine.execApuTriTlo value s
  | .apuTriLen index timerHigh => Sys2Proof.Machine.execApuTriLen index timerHigh s
  | .apuNoiEnv halt constant volume => Sys2Proof.Machine.execApuNoiEnv halt constant volume s
  | .apuUnused400d value => Sys2Proof.Machine.execApuUnused400d value s
  | .apuNoiPeriod value => Sys2Proof.Machine.execApuNoiPeriod value s
  | .apuNoiLen index => Sys2Proof.Machine.execApuNoiLen index s
  | .apuDmc0 value => Sys2Proof.Machine.execApuDmc0 value s
  | .apuDmc1 value => Sys2Proof.Machine.execApuDmc1 value s
  | .apuDmc2 value => Sys2Proof.Machine.execApuDmc2 value s
  | .apuDmc3 value => Sys2Proof.Machine.execApuDmc3 value s
  | .apuStatus dmc noise triangle pulse2 pulse1 => Sys2Proof.Machine.execApuStatus dmc noise triangle pulse2 pulse1 s
  | .apuFrame value => Sys2Proof.Machine.execApuFrame value s
  | .sysTick => Sys2Proof.Machine.execSysTick s
  | .apuTick => Sys2Proof.Machine.execApuTick s
  | .apuQuarter => Sys2Proof.Machine.execApuQuarter s
  | .apuHalf => Sys2Proof.Machine.execApuHalf s
  | .apuMix => Sys2Proof.Machine.execApuMix s
  | .apuReset => Sys2Proof.Machine.execApuReset s

end Sys2Proof.Machine
end

