-- ==== Sys2Proof/Machine/Issue.lean ====
section
/-! DEFINITION. How an operation the environment issues comes to run (rules R9, R90, R92, R97), the step
function of the block under a configuration (rule R6), and how a block with another mapper is selected. -/

namespace Sys2Proof.Machine

/-- The state in which an operation runs: it has left the list, and its operands beside the word are on
the block's inputs. The block's own state is as it was. -/
def State.begin (s : State) (t : Transaction) (rest : List Transaction) : State :=
  (s.setPending rest).setSide t.side

/-- The operands of a next operation before which the environment has changed none: the timers hold
their reload values. -/
def State.sameSide (s : State) : Side :=
  { s.side with reloadP1 := s.timerReload .p1, reloadP2 := s.timerReload .p2 }

/-- What a word that is no operation leaves: no state change, and the answer NotClaimed if it is a bus
word (rules R97, R171). -/
def State.rejected (s : State) (reason : Reject) : State :=
  match reason with
  | .notClaimed => s.answer .notClaimed
  | .neverGenerated => s.done

/-- One operation on the block, decoded by the table of its mapper (rule R92). -/
def State.perform (s : State) (word : Tw) : Result :=
  match decode s.mapperId word with
  | .ok i => exec i s
  | .error reason => .next (s.rejected reason)

/-! ### The step under a configuration -/

/-- What a step of the block answers: its next state and what then stands outside it. No configuration is
answered. -/
abbrev BlockResult := Host.Outcome (Block × Environment) Fault Refusal

/-- The answer without the configuration: whatever ran under one cannot have changed it. -/
def onBlock (r : Result) : BlockResult :=
  match r with
  | .next s => .next (s.toBlock, s.toEnvironment)
  | .fault f => .fault f
  | .refused f => .refused f

/-- The answer of a block that runs under `c`, with `c` beside it again. -/
def underCfg (c : Cfg) (r : BlockResult) : Result :=
  match r with
  | .next (b, e) => .next (b.under e c)
  | .fault f => .fault f
  | .refused f => .refused f

/-- The step function of the block. `Cfg` is an argument of it and no part of the state it is given or
answers (rule R6), and what rule R20 calls inputs of operations comes to it in the environment. With no
operation issued, "time stops for the block" and all state is retained (rule R292). -/
def blockStep (c : Cfg) (e : Environment) (b : Block) : BlockResult :=
  match e.pending with
  | [] => .next (b, e)
  | t :: rest => onBlock (((b.under e c).begin t rest).perform t.word)

/-- Another cartridge in the block, one with the mapper `m`, in the state after its reset; the arrays are
kept, but for static RAM, which is there or not as the mapper has it (rules R20, R300, R302). -/
def State.withMapper (s : State) (m : MapperId) : State :=
  if s.mapperId = m then s
  else
    let c := { s.cfg with mapperId := m }
    { s with cfg := c, map := MapState.reset m c, sramState := sramAtReset c }

end Sys2Proof.Machine
end

