-- ==== Sys2Proof/Machine/Step.lean ====
section
/-! DEFINITION. One step of the block: the next operation the environment has issued (rules R9, R63,
R74, R75). -/

namespace Sys2Proof.Machine

/-- One step: `blockStep` on its three arguments, with the same configuration beside the answer (rule R6). -/
def step (s : State) : Host.Outcome State Fault Refusal :=
  underCfg s.cfg (blockStep s.cfg s.toEnvironment s.toBlock)

/-- The block with the operation `w` issued next, before every other. The word is read in the table of
`defaultTable` (as `decodeTableWord` reads it), so an operation of a mapper's table selects that
mapper; nothing else changes. -/
def State.withFetchWord (s : State) (nbits w : Nat) : State :=
  let selected :=
    match decodeTableWord nbits w with
    | some i =>
      match i.mapper with
      | some m => s.withMapper m
      | none => s
    | none => s
  selected.setPending ({ word := BitVec.ofNat 27 (w % 2 ^ nbits), side := s.sameSide } :: s.pending)

end Sys2Proof.Machine
end

