-- ==== Sys2Proof/Safety.lean ====
section
/-! DEFINITION. What counts as a legal state of the block, in the terms the statements use: the
invariants of rule R48 and of the rules it gathers, and what the configuration check of rule R281
leaves. -/

namespace Sys2Proof.Machine

/-- A mirroring register of mapper 4 or 9 only ever holds these two modes (rules R29, R31). -/
def isRegisterMirror (mode : MirrorMode) : Bool := mode == .horizontal || mode == .vertical

/-- The latched offsets of mapper 4: multiples of their bank size (rule R48), the last window on the
last 8 KiB bank, and the second-last bank in window 0 or 2 (rules R235, R242). -/
def M4State.offsetsLegal (prgBanks : Nat) (r : M4State) : Bool :=
  r.chrOff.all (fun off => off % 0x400 == 0) && r.prgOff.all (fun off => off % 0x2000 == 0) &&
    r.prgOff[3] == (2 * prgBanks - 1) * 0x2000 &&
    (r.prgOff[0] == (2 * prgBanks - 2) * 0x2000 || r.prgOff[2] == (2 * prgBanks - 2) * 0x2000)

/-- What holds of the mapper registers between operations (rules R29, R31, R48, R191). -/
def MapState.legal (c : Cfg) (map : MapState) : Bool :=
  match map with
  | .m0 => true
  | .m1 r => r.cnt ≤ 4 && c.prgBanks ≤ mmc1MaxPrgBanks
  | .m2 _ => true
  | .m3 _ => true
  | .m4 r => r.offsetsLegal c.prgBanks && isRegisterMirror r.mirror
  | .m9 r => isRegisterMirror r.mirror

/-- "The table only holds values up to 254" (rule R37). -/
def tableLegal (c : Cfg) : Bool := c.lengthTable.all (fun v => v.toNat ≤ 254)

/-- The four length counters are at most 254 (rule R37). -/
def lengthsLegal (a : ApuState) : Bool :=
  a.lenP1.toNat ≤ 254 && a.lenP2.toNat ≤ 254 && a.lenT.toNat ≤ 254 && a.lenN.toNat ≤ 254

/-- An array is in canonical form and lists no offset beyond its size (rules R45, R48). -/
def arrayLegal (m : Memory) (size : Nat) : Bool := Memory.wf m && Memory.within m size

/-- The arrays of a configuration are legal (rules R6, R45), and with no CHR bank CHR is all zero (rule
R34). -/
def contentsLegal (c : Cfg) : Bool :=
  arrayLegal c.prg c.prgSize && arrayLegal c.chr c.chrSize && arrayLegal c.sramInit Cfg.sramSize &&
    (c.chrBanks != 0 || c.chr.isEmpty)

/-- The block's state has the shape that the configuration gives it (rule R20): the mapper variant that
`mapperID` chooses, static RAM on mappers 1 and 4, CHR when it is RAM, PRG when it is writable. -/
def shapeLegal (c : Cfg) (b : Block) : Bool :=
  b.map.id == c.mapperId && b.sramState.isSome == c.mapperId.ownsSram &&
    b.chrState.isSome == (c.chrBanks == 0) && b.prgState.isSome == c.prgWritable

/-- The invariant of the block. -/
structure State.Inv (s : State) : Prop where
  /-- What is state and what is configuration (rule R20). -/
  shape_legal : shapeLegal s.cfg s.toBlock = true
  /-- The arrays of the configuration (rule R6). -/
  contents_legal : contentsLegal s.cfg = true
  /-- `PRGbanks >= 1` (rules R6, R281). -/
  prgBanks_pos : 1 ≤ s.cfg.prgBanks
  /-- The mapper registers. -/
  map_legal : s.map.legal s.cfg = true
  /-- `0 <= fc <= 14915` (rules R35, R48). -/
  fc_le : s.apu.fc ≤ 14915
  /-- The length counters, with a table as rule R37 has it. -/
  lengths_legal : tableLegal s.cfg = true → lengthsLegal s.apu = true
  /-- The PRG array. -/
  prg_legal : arrayLegal s.prg s.cfg.prgSize = true
  /-- The CHR array. -/
  chr_legal : arrayLegal s.chr s.cfg.chrSize = true
  /-- The static RAM. -/
  sram_legal : arrayLegal s.sram Cfg.sramSize = true

end Sys2Proof.Machine
end

