-- ==== Sys2Proof/Certificates/Slice0/Obligations.lean ====
section
/-! DEFINITION. The statements for the provers, and the few words they are written in. Results are
given in the spec's own arithmetic on naturals, and as the whole next state where that is possible, so
that each says what changes and that nothing else does. -/

open Sys2Proof Sys2Proof.Machine

namespace Sys2Proof.Machine.Stated

/-- `s` after an operation that answered `resp` and neither signalled nor emitted anything: nothing but
the outputs differs. -/
def answered (s : State) (resp : Response) : State :=
  { s with out := { resp := resp, ramWritten := false, apuTick := false, quarter := false,
                    half := false, reloads := none } }

/-- `s` after a claimed read at offset `off` of an array. -/
def readAt (s : State) (space : Space) (off : Nat) : State :=
  answered s (.read (.offset space off)
    (some (Memory.read (match space with | .prg => s.prg | .chr => s.chr) off)))

/-- `s` after a register write that left the mapper registers as `map`. -/
def registersAre (s : State) (map : MapState) : State := answered { s with map := map } (.write .notClaimed)

/-- `s` after an APU register write that left the APU as `apu`. -/
def apuIs (s : State) (apu : ApuState) : State := answered { s with apu := apu } (.write .notClaimed)

/-- `s` once the operation `t` has been taken from the list, with its operands beside the word on the
inputs. Nothing of rule R20's state differs: list and inputs are the model's own (logs 1 and 2). -/
def taken (s : State) (t : Transaction) (rest : List Transaction) : State :=
  { s with pending := rest, side := t.side }

/-- `PRG_SIZE` and `CHR_SIZE` (rule R6). -/
def prgBytes (s : State) : Nat := s.cfg.prgBanks * 0x4000
def chrBytes (s : State) : Nat := max s.cfg.chrBanks 1 * 0x2000

/-- `n` executions of one instruction, one after the other. -/
def execTimes : Nat → Instr → State → Result
  | 0, _, s => .next s
  | n + 1, i, s =>
    match exec i s with
    | .next t => execTimes n i t
    | stop => stop

/-- Writes to the serial port of mapper 1, each with the CPU step at which it is made, its bit and its
target. -/
def serialWrites : List (Nat × BitVec 1 × BitVec 2) → State → Result
  | [], s => .next s
  | (step, bit, target) :: rest, s =>
    match exec (.m1SerialShift bit target) { s with side := { s.side with cpuStep := step } } with
    | .next t => serialWrites rest t
    | stop => stop

/-- The register addresses of the APU: $4000-$4013, $4015, $4017. -/
def isApuAddr (a : Nat) : Bool := (0x4000 ≤ a && a ≤ 0x4013) || a == 0x4015 || a == 0x4017

/-- The accesses no mapper owns (rule R171). -/
def isUnowned (m : MapperId) (w : Tw) : Bool :=
  let a := w.addr.toNat
  if w.kind = 0#3 ∨ w.kind = 1#3 then a < 0x6000 || (a < 0x8000 && m != .m1 && m != .m4)
  else (w.kind = 2#3 || w.kind = 3#3) && 0x2000 ≤ a

/-- The `Reset` operation of each mapper's table. -/
def resetOf : MapperId → Instr
  | .m0 => .m0Reset | .m1 => .m1Reset | .m2 => .m2Reset
  | .m3 => .m3Reset | .m4 => .m4Reset | .m9 => .m9Reset

/-- The PRG read of each mapper's table. -/
def cpuReadOf (m : MapperId) (within : BitVec 15) : Instr :=
  match m with
  | .m0 => .m0CpuRead within | .m1 => .m1CpuRead within | .m2 => .m2CpuRead within
  | .m3 => .m3CpuRead within | .m4 => .m4CpuRead within | .m9 => .m9CpuRead within

/-- `Scanline`, `IrqState` and `IrqClear` of the mappers with no scanline counter (rule R170). -/
def scanlineOf : MapperId → Instr
  | .m0 => .m0Scanline | .m1 => .m1Scanline | .m2 => .m2Scanline
  | .m3 => .m3Scanline | .m4 => .m4Scanline | .m9 => .m9Scanline
def irqStateOf : MapperId → Instr
  | .m0 => .m0IrqState | .m1 => .m1IrqState | .m2 => .m2IrqState
  | .m3 => .m3IrqState | .m4 => .m4IrqState | .m9 => .m9IrqState
def irqClearOf : MapperId → Instr
  | .m0 => .m0IrqClear | .m1 => .m1IrqClear | .m2 => .m2IrqClear
  | .m3 => .m3IrqClear | .m4 => .m4IrqClear | .m9 => .m9IrqClear

/-- The operands of an instruction are the fields that its format cuts out of the word (rules R94,
R95, R96 (c)). -/
def FieldsAre (w : Tw) : Instr → Prop
  | .m0CpuRead within => within.toNat = w.addr.toNat % 0x8000
  | .m1CpuRead within => within.toNat = w.addr.toNat % 0x8000
  | .m2CpuRead within => within.toNat = w.addr.toNat % 0x8000
  | .m3CpuRead within => within.toNat = w.addr.toNat % 0x8000
  | .m4CpuRead within => within.toNat = w.addr.toNat % 0x8000
  | .m9CpuRead within => within.toNat = w.addr.toNat % 0x8000
  | .m0PpuRead within => within.toNat = w.addr.toNat
  | .m1PpuRead within => within.toNat = w.addr.toNat
  | .m2PpuRead within => within.toNat = w.addr.toNat
  | .m3PpuRead within => within.toNat = w.addr.toNat
  | .m4PpuRead within => within.toNat = w.addr.toNat
  | .m9PpuRead within => within.toNat = w.addr.toNat
  | .m0CpuWrite within value => within.toNat = w.addr.toNat % 0x8000 ∧ value = w.data
  | .m0PpuWrite within value => within.toNat = w.addr.toNat ∧ value = w.data
  | .m1PpuWrite within value => within.toNat = w.addr.toNat ∧ value = w.data
  | .m2PpuWrite within value => within.toNat = w.addr.toNat ∧ value = w.data
  | .m3PpuWrite within value => within.toNat = w.addr.toNat ∧ value = w.data
  | .m4PpuWrite within value => within.toNat = w.addr.toNat ∧ value = w.data
  | .m9PpuWrite within value => within.toNat = w.addr.toNat ∧ value = w.data
  | .m1SramRead index => index.toNat = w.addr.toNat % 0x2000
  | .m1SramWrite index value => index.toNat = w.addr.toNat % 0x2000 ∧ value = w.data
  | .m4SramRead index => index.toNat = w.addr.toNat % 0x2000
  | .m4SramWrite index value => index.toNat = w.addr.toNat % 0x2000 ∧ value = w.data
  | .m1SerialShift bit target =>
    bit.toNat = w.data.toNat % 2 ∧ target.toNat = w.addr.toNat / 0x2000 % 4
  | .m2BankSelect bank => bank.toNat = w.data.toNat % 16
  | .m3ChrSelect bank => bank.toNat = w.data.toNat % 4
  | .m4BankSelect chrInv prgMode target =>
    chrInv = w.data.getLsbD 7 ∧ prgMode = w.data.getLsbD 6 ∧ target.toNat = w.data.toNat % 8
  | .m4BankData value => value = w.data
  | .m4Mirror horizontal => horizontal = w.data.getLsbD 0
  | .m4IrqLatch reload => reload = w.data
  | .m9PrgSelect bank => bank.toNat = w.data.toNat % 16
  | .m9ChrFd0 bank => bank.toNat = w.data.toNat % 32
  | .m9ChrFe0 bank => bank.toNat = w.data.toNat % 32
  | .m9ChrFd1 bank => bank.toNat = w.data.toNat % 32
  | .m9ChrFe1 bank => bank.toNat = w.data.toNat % 32
  | .m9Mirror horizontal => horizontal = w.data.getLsbD 0
  | .m9PpuReadFd0 low => low.toNat = w.addr.toNat % 16
  | .m9PpuReadFe0 low => low.toNat = w.addr.toNat % 16
  | .m9PpuReadFd1 low => low.toNat = w.addr.toNat % 16
  | .m9PpuReadFe1 low => low.toNat = w.addr.toNat % 16
  | .apuP1Env duty halt constant volume =>
    duty.toNat = w.data.toNat / 64 ∧ halt = w.data.getLsbD 5 ∧ constant = w.data.getLsbD 4 ∧
      volume.toNat = w.data.toNat % 16
  | .apuP2Env duty halt constant volume =>
    duty.toNat = w.data.toNat / 64 ∧ halt = w.data.getLsbD 5 ∧ constant = w.data.getLsbD 4 ∧
      volume.toNat = w.data.toNat % 16
  | .apuNoiEnv halt constant volume =>
    halt = w.data.getLsbD 5 ∧ constant = w.data.getLsbD 4 ∧ volume.toNat = w.data.toNat % 16
  | .apuP1Len index timerHigh =>
    index.toNat = w.data.toNat / 8 ∧ timerHigh.toNat = w.data.toNat % 8
  | .apuP2Len index timerHigh =>
    index.toNat = w.data.toNat / 8 ∧ timerHigh.toNat = w.data.toNat % 8
  | .apuTriLen index timerHigh =>
    index.toNat = w.data.toNat / 8 ∧ timerHigh.toNat = w.data.toNat % 8
  | .apuNoiLen index => index.toNat = w.data.toNat / 8
  | .apuTriLinear halt reload => halt = w.data.getLsbD 7 ∧ reload.toNat = w.data.toNat % 128
  | .apuStatus dmc noise triangle pulse2 pulse1 =>
    dmc = w.data.getLsbD 4 ∧ noise = w.data.getLsbD 3 ∧ triangle = w.data.getLsbD 2 ∧
      pulse2 = w.data.getLsbD 1 ∧ pulse1 = w.data.getLsbD 0
  | .apuP1Sweep value => value = w.data
  | .apuP1Tlo value => value = w.data
  | .apuP2Sweep value => value = w.data
  | .apuP2Tlo value => value = w.data
  | .apuUnused4009 value => value = w.data
  | .apuTriTlo value => value = w.data
  | .apuUnused400d value => value = w.data
  | .apuNoiPeriod value => value = w.data
  | .apuDmc0 value => value = w.data
  | .apuDmc1 value => value = w.data
  | .apuDmc2 value => value = w.data
  | .apuDmc3 value => value = w.data
  | .apuFrame value => value = w.data
  | .m1SerialReset | .m4RamProtect | .m4IrqReload | .m4IrqDisable | .m4IrqEnable | .m9NopWrite => True
  | .m0Reset | .m0MirrorQ | .m0Scanline | .m0IrqState | .m0IrqClear => True
  | .m1Reset | .m1MirrorQ | .m1Scanline | .m1IrqState | .m1IrqClear => True
  | .m2Reset | .m2MirrorQ | .m2Scanline | .m2IrqState | .m2IrqClear => True
  | .m3Reset | .m3MirrorQ | .m3Scanline | .m3IrqState | .m3IrqClear => True
  | .m4Reset | .m4MirrorQ | .m4Scanline | .m4IrqState | .m4IrqClear => True
  | .m9Reset | .m9MirrorQ | .m9Scanline | .m9IrqState | .m9IrqClear => True
  | .sysTick | .apuTick | .apuQuarter | .apuHalf | .apuMix | .apuReset => True

/-- One quarter-frame clock of an envelope unit, from `e` to `e'` (rule R121). -/
def EnvClocked (e e' : Envelope) (loop : Bool) : Prop :=
  e'.disable = e.disable ∧ e'.volume = e.volume ∧ e'.start = false ∧
  (e.start = true → e'.decay.toNat = 15 ∧ e'.divider = e.volume) ∧
  (e.start = false → e.divider.toNat ≠ 0 →
    e'.decay = e.decay ∧ e'.divider.toNat = e.divider.toNat - 1) ∧
  (e.start = false → e.divider.toNat = 0 → e'.divider = e.volume ∧
    (e.decay.toNat ≠ 0 → e'.decay.toNat = e.decay.toNat - 1) ∧
    (e.decay.toNat = 0 → loop = true → e'.decay.toNat = 15) ∧
    (e.decay.toNat = 0 → loop = false → e'.decay.toNat = 0))

/-- One half-frame clock of a length counter, from `l` to `l'` (rule R123). -/
def LenClocked (l l' : Byte) (enable halt : Bool) : Prop :=
  (enable = false → l'.toNat = 0) ∧
  (enable = true → halt = true → l' = l) ∧
  (enable = true → halt = false → l'.toNat = l.toNat - 1)

end Sys2Proof.Machine.Stated

open Sys2Proof.Machine.Stated

/-! ### Encoding and decoding -/

/-- Decoding the word of a well-formed instruction gives it back, with every operand. -/
def Obligations.DecodeOfEncodeIsTheInstruction : Prop :=
  ∀ (m : MapperId) (i : Instr), i.wellFormed = true → (i.mapper = none ∨ i.mapper = some m) →
    decode m (encode i) = .ok i

/-- The decoder gives the operation of the first row of rule R98's tables that matches the word, and
rejects the words that no row matches (rules R90, R92, R93, R98). -/
def Obligations.DecoderFollowsTheOpcodeMap : Prop :=
  ∀ (m : MapperId) (w : Tw),
    (decode m w).toOption.map Instr.mnemonic = (firstMatchingRow m w).map OpcodeRow.mnemonic

/-- What is decoded is well formed and of the selected table (rule R92), and its operands are the fields
of the formats of rules R94 and R95, every other bit being ignored. -/
def Obligations.DecodedOperandsAreTheFieldsOfTheWord : Prop :=
  ∀ (m : MapperId) (w : Tw) (i : Instr), decode m w = .ok i →
    i.wellFormed = true ∧ (i.mapper = none ∨ i.mapper = some m) ∧ FieldsAre w i

/-- Rule R93: two rows of the tables tried together match one word only on mapper 9, and then one of
them is the general PPU read and the other a latch row. -/
def Obligations.OnlyLatchRowsOverlap : Prop :=
  ∀ (m : MapperId) (w : Tw) (r r' : OpcodeRow), r ∈ mapperRows m ++ apuRows →
    r' ∈ mapperRows m ++ apuRows → r ≠ r' → r.matchesWord w = true → r'.matchesWord w = true →
    m = .m9 ∧
      ((r.mnemonic = "M9.PPU_READ" ∧
          r'.mnemonic ∈ ["M9.PPU_READ_FD0", "M9.PPU_READ_FE0", "M9.PPU_READ_FD1", "M9.PPU_READ_FE1"]) ∨
        (r'.mnemonic = "M9.PPU_READ" ∧
          r.mnemonic ∈ ["M9.PPU_READ_FD0", "M9.PPU_READ_FE0", "M9.PPU_READ_FD1", "M9.PPU_READ_FE1"]))

/-- A few words written out from rule R90's fields and the rows of rule R98. -/
def Obligations.WrittenOutWordsDecode : Prop :=
  decode .m0 0x0FFFC00#27 = .ok (.m0CpuRead 0x7FFC#15) ∧
  decode .m1 0x1FFFF7F#27 = .ok (.m1SerialShift 1#1 3#2) ∧
  decode .m1 0x1800080#27 = .ok .m1SerialReset ∧
  decode .m2 0x1C00006#27 = .ok (.m2BankSelect 6#4) ∧
  decode .m3 0x18000FE#27 = .ok (.m3ChrSelect 2#2) ∧
  decode .m4 0x1800080#27 = .ok (.m4BankSelect true false 0#3) ∧
  decode .m4 0x19FFF80#27 = .ok (.m4BankData 0x80#8) ∧
  decode .m4 0x1C00105#27 = .ok .m4IrqReload ∧
  decode .m9 0x1C00105#27 = .ok (.m9ChrFe0 5#5) ∧
  decode .m9 0x20FD800#27 = .ok (.m9PpuReadFd0 8#4) ∧
  decode .m9 0x20FF000#27 = .ok (.m9PpuRead 0xFF0#13) ∧
  decode .m0 0x0600000#27 = .error .notClaimed ∧
  decode .m2 0x14003F8#27 = .ok (.apuP1Len 31#5 0#3) ∧
  decode .m4 0x4000001#27 = .ok .m4Scanline ∧
  decode .m9 0x400000A#27 = .ok .apuReset ∧
  decode .m4 0x400000B#27 = .error .neverGenerated

/-! ### A step -/

/-- A step takes the next operation from the list, with its operands beside the word, and runs what the
table of the block's mapper decodes it to. -/
def Obligations.StepRunsTheDecodedOperation : Prop :=
  ∀ (s : State) (t : Transaction) (rest : List Transaction) (i : Instr), s.pending = t :: rest →
    decode s.mapperId t.word = .ok i → step s = exec i (taken s t rest)

/-- Rule R171: for an access no mapper owns the mapper answers NotClaimed and changes no state; an APU
register address is then written by the APU alone (rule R92): its own state, or the parameter bytes of
one sweep unit. The list and the inputs that the operation leaves and takes are the model's choice (logs
1 and 2), and so is where the bytes lie (log 8). -/
def Obligations.UnownedAccessIsNotClaimed : Prop :=
  ∀ (s : State) (t : Transaction) (rest : List Transaction), s.pending = t :: rest →
    isUnowned s.mapperId t.word = true →
    ((t.word.kind ≠ 1#3 ∨ isApuAddr t.word.addr.toNat = false) →
      step s = .next (answered (taken s t rest) .notClaimed)) ∧
    (t.word.kind = 1#3 → isApuAddr t.word.addr.toNat = true →
      ∃ apu inbox, step s = .next (apuIs { taken s t rest with inbox := inbox } apu))

/-- Rule R292: with no operation issued a step leaves all state as it is. Rule R97 (a): kinds 5 to 7,
and events that no row has, are no operation and change no state of the block. The list, the inputs and
the outputs, which such a word does move, are the model's choice (logs 1 and 2). -/
def Obligations.NoOperationChangesNothing : Prop :=
  ∀ s : State, (s.pending = [] → step s = .next s) ∧
    ∀ (t : Transaction) (rest : List Transaction), s.pending = t :: rest →
      (5 ≤ t.word.kind.toNat ∨
        (t.word.kind.toNat = 4 ∧ (t.word.addr ≠ 0#16 ∨ 11 ≤ t.word.data.toNat))) →
      step s = .next (answered (taken s t rest) .none)

/-- From rules R280 and R172: on every state that has the mapper variant `mapperID` chooses (rule R20, kept
by every step), whatever operation comes next, the step has a next state.
For `Mix` outside its domain that is the model's choice: rules R154 and R282 say that a model refuses
there, this model answers a free value (log 9). -/
def Obligations.EveryStepHasANextState : Prop :=
  ∀ s : State, s.map.id = s.mapperId → ∃ t, step s = .next t

/-! ### Invariants -/

/-- From every state that meets the invariant a step gives a state that meets it (rule R48). -/
def Obligations.StepKeepsTheInvariant : Prop :=
  ∀ s t : State, s.Inv → step s = .next t → t.Inv

/-- The state after reset meets the invariant. The cartridge of that state is the model's choice (log
3). -/
def Obligations.ResetMeetsTheInvariant : Prop := State.reset.Inv

/-- A block built from an accepted cartridge meets the invariant (rules R281, R302, R48). -/
def Obligations.ConstructionMeetsTheInvariant : Prop :=
  ∀ (c : Cartridge) (s : State), construct c = .ok s → s.Inv

/-- Rule R281: exactly the cartridges of its table are refused, each with the name the table gives; where
two of its conditions hold, the model takes the first in the table's order (log 10). -/
def Obligations.RefusedCartridges : Prop :=
  ∀ c : Cartridge,
    (c.mapperID ∉ [0, 1, 2, 3, 4, 9] → construct c = .error (.unsupportedMapper c.mapperID)) ∧
    (c.mapperID ∈ [0, 1, 2, 3, 4, 9] → c.params.prgBanks = 0 → construct c = .error .invalidConfig) ∧
    (c.mapperID = 1 → c.params.prgBanks > 16 → construct c = .error .unsupportedLargeMmc1) ∧
    (c.mapperID ∈ [0, 1, 2, 3, 4, 9] → ¬ (c.mapperID = 1 ∧ c.params.prgBanks > 16) →
      (c.prg.length ≠ c.params.prgBanks * 0x4000 ∨ c.chr.length ≠ max c.params.chrBanks 1 * 0x2000) →
      construct c = .error .invalidConfig) ∧
    (c.mapperID ∈ [0, 1, 2, 3, 4, 9] → 1 ≤ c.params.prgBanks →
      ¬ (c.mapperID = 1 ∧ c.params.prgBanks > 16) → c.prg.length = c.params.prgBanks * 0x4000 →
      c.chr.length = max c.params.chrBanks 1 * 0x2000 → ∃ s, construct c = .ok s)

/-- Rule R302: the state after construction: the arrays as the cartridge gives them, static RAM as
`SRAM_INIT` gives it, CHR RAM all zero, and then what `Reset` and `ApuReset` leave. Rule R20: the mapper
variant is the one `mapperID` chooses, and an array is state only under the configurations it names, else
part of `Cfg`. -/
def Obligations.ConstructedState : Prop :=
  ∀ (c : Cartridge) (s : State), construct c = .ok s →
    s.cfg.toParams = c.params ∧ s.mapperId.number = c.mapperID ∧ s.map.id = s.mapperId ∧
    (s.sramState.isSome = true ↔ c.mapperID = 1 ∨ c.mapperID = 4) ∧
    (s.chrState.isSome = true ↔ c.params.chrBanks = 0) ∧
    (s.prgState.isSome = true ↔ c.params.prgWritable = true) ∧
    (∀ a b, c.prg[a]? = some b → Memory.read s.prg a = b ∧ Memory.read s.cfg.prg a = b) ∧
    (c.params.chrBanks = 0 → ∀ a, a < 0x2000 → Memory.read s.chr a = 0 ∧ Memory.read s.cfg.chr a = 0) ∧
    (c.params.chrBanks ≠ 0 → ∀ a b, c.chr[a]? = some b → Memory.read s.chr a = b ∧
      Memory.read s.cfg.chr a = b) ∧
    (∀ a b, a < 0x8000 → c.sramInit[a]? = some b → Memory.read s.sram a = b ∧
      Memory.read s.cfg.sramInit a = b) ∧
    (∃ t u, exec (resetOf s.mapperId) s = .next t ∧ exec .apuReset t = .next u ∧
      u.map = s.map ∧ u.apu = s.apu)

/-- Every translated offset an operation answers is inside its array (rules R48, R163), and in the
source's shape its number is not the sentinel, which every access of static RAM answers (rules R6, R160;
that the sentinel is held by its distance above the arrays is the model's choice, log 12). -/
def Obligations.AnsweredOffsetsAreInsideTheArray : Prop :=
  ∀ (s t : State) (space : Space) (off : Nat), s.Inv → s.pending ≠ [] → step s = .next t →
    ((∃ data, t.out.resp = .read (.offset space off) data) ∨
      t.out.resp = .write (.offset space off)) →
    off < (match space with | .prg => prgBytes s | .chr => chrBytes s) ∧
      (MapResult.offset space off).asPair t.cfg = (true, off) ∧ off ≠ t.cfg.sentinel ∧
      (∀ v, (MapResult.internalRead v).asPair t.cfg = (true, t.cfg.sentinel)) ∧
      MapResult.internalWrite.asPair t.cfg = (true, t.cfg.sentinel)

/-! ### Rules about the whole block -/

/-- Rules R6, R92: a step is the block's step function with the configuration, mapper ID and contents of
the cartridge among it, as an argument of it, so the block is never given or answered a configuration; no
instruction and no step changes the configuration, or the mapper: "It never changes afterwards". That the
host's step is given its arguments as one is the model's choice (log 3). -/
def Obligations.ConfigurationNeverChanges : Prop :=
  (∀ s t : State, step s = .next t ↔
    t.cfg = s.cfg ∧
      blockStep s.cfg s.toEnvironment s.toBlock = .next (t.toBlock, t.toEnvironment)) ∧
  (∀ (i : Instr) (s t : State), exec i s = .next t → t.cfg = s.cfg ∧ t.map.id = s.map.id) ∧
  (∀ s t : State, step s = .next t → t.cfg = s.cfg ∧ t.map.id = s.map.id)

/-- Rule R20's last sentence: an APU operation changes nothing of the block's state but the APU, a mapper
operation leaves the APU alone. What is no state stays too: the configuration, the contents of `Cfg`'s
arrays among it, and the operands that the operation was presented with. -/
def Obligations.MapperAndApuShareNoState : Prop :=
  ∀ (i : Instr) (s t : State), exec i s = .next t →
    t.cfg = s.cfg ∧ t.side = s.side ∧ t.pending = s.pending ∧
    (i.mapper = none → t.toBlock = { s.toBlock with apu := t.apu }) ∧
    (∀ m, i.mapper = some m → t.apu = s.apu ∧ t.inbox = s.inbox)

/-- CPU reads, and PPU reads that move no latch, change nothing of the block but the answer; a PPU read
in a latch range of mapper 9 changes that window's latch alone (rule R64). The list and the inputs, which
every operation moves, are the model's choice (logs 1 and 2). -/
def Obligations.ReadsHaveNoOtherSideEffect : Prop :=
  ∀ (s u : State) (t : Transaction) (rest : List Transaction), s.pending = t :: rest →
    step s = .next u →
    (t.word.kind = 0#3 → u = { taken s t rest with out := u.out }) ∧
    (t.word.kind = 2#3 →
      (s.mapperId ≠ .m9 ∨ ¬ (0x0FD0 ≤ t.word.addr.toNat ∧ t.word.addr.toNat ≤ 0x0FEF) ∧
        ¬ (0x1FD0 ≤ t.word.addr.toNat ∧ t.word.addr.toNat ≤ 0x1FEF)) →
      u = { taken s t rest with out := u.out }) ∧
    (t.word.kind = 2#3 → ∀ r, s.map = .m9 r → ∃ l0 l1,
      u = { taken s t rest with out := u.out, map := .m9 { r with latch0 := l0, latch1 := l1 } } ∧
      (0x1000 ≤ t.word.addr.toNat → l0 = r.latch0) ∧ (t.word.addr.toNat < 0x1000 → l1 = r.latch1))

/-- PRG changes only by a CPU write of mapper 0 in $8000-$FFFF, and only when `PRG_WRITABLE` (rules
R71, R162). -/
def Obligations.PrgIsWrittenOnlyByMapperZero : Prop :=
  ∀ s u : State, step s = .next u → u.prg ≠ s.prg →
    s.mapperId = .m0 ∧ s.cfg.prgWritable = true ∧
      ∃ t rest, s.pending = t :: rest ∧ t.word.kind = 1#3 ∧ 0x8000 ≤ t.word.addr.toNat

/-- Static RAM changes only by a CPU write in $6000-$7FFF on mappers 1 and 4, and then only at index
`addr & 0x1FFF` (rule R33). -/
def Obligations.SramIsWrittenOnlyThroughItsWindow : Prop :=
  ∀ s u : State, Memory.wf s.sram = true → step s = .next u → u.sram ≠ s.sram →
    (s.mapperId = .m1 ∨ s.mapperId = .m4) ∧
      ∃ t rest, s.pending = t :: rest ∧ t.word.kind = 1#3 ∧
        0x6000 ≤ t.word.addr.toNat ∧ t.word.addr.toNat < 0x8000 ∧
        ∀ a, Memory.read u.sram a =
          if a = t.word.addr.toNat % 0x2000 then t.word.data else Memory.read s.sram a

/-- CHR changes only when it is RAM, by a PPU write below $2000 on mappers 0, 1 and 2, and then only at
the address written (rules R34, R67, R165). -/
def Obligations.ChrIsWrittenOnlyWhenItIsRam : Prop :=
  ∀ s u : State, Memory.wf s.chr = true → step s = .next u → u.chr ≠ s.chr →
    s.cfg.chrBanks = 0 ∧ (s.mapperId = .m0 ∨ s.mapperId = .m1 ∨ s.mapperId = .m2) ∧
      ∃ t rest, s.pending = t :: rest ∧ t.word.kind = 3#3 ∧ t.word.addr.toNat < 0x2000 ∧
        ∀ a, Memory.read u.chr a =
          if a = t.word.addr.toNat then t.word.data else Memory.read s.chr a

/-- The latched offsets of mapper 4 change only in a bank-data write and in `Reset` (rule R30). -/
def Obligations.LatchedOffsetsChangeOnlyInTwoOperations : Prop :=
  ∀ (s u : State) (r r' : M4State), s.map = .m4 r → step s = .next u → u.map = .m4 r' →
    (r'.chrOff ≠ r.chrOff ∨ r'.prgOff ≠ r.prgOff) →
    ∃ t rest, s.pending = t :: rest ∧
      (decode .m4 t.word = .ok .m4Reset ∨ ∃ v, decode .m4 t.word = .ok (.m4BankData v))

/-- `irq_active` rises only in `Scanline`, and falls only in `IrqClear`, in a disable write and in
`Reset` (rule R285). -/
def Obligations.RequestRisesOnlyInScanline : Prop :=
  ∀ (s u : State) (r r' : M4State), s.map = .m4 r → step s = .next u → u.map = .m4 r' →
    (r.irqActive = false → r'.irqActive = true →
      ∃ t rest, s.pending = t :: rest ∧ decode .m4 t.word = .ok .m4Scanline) ∧
    (r.irqActive = true → r'.irqActive = false →
      ∃ t rest, s.pending = t :: rest ∧
        (decode .m4 t.word = .ok .m4IrqClear ∨ decode .m4 t.word = .ok .m4IrqDisable ∨
          decode .m4 t.word = .ok .m4Reset))

/-- Two arrays in canonical form that read alike at every offset are equal data. The canonical form is
the model's choice (log 4): the spec's arrays are plain sequences of bytes. -/
def Obligations.ArraysThatReadAlikeAreEqual : Prop :=
  ∀ m m' : Memory, Memory.wf m = true → Memory.wf m' = true →
    (∀ a, Memory.read m a = Memory.read m' a) → m = m'

/-! ### Mappers 0, 2 and 3 -/

/-- Rules R182, R184, R214, R223: mappers 0 and 3 read PRG at the address masked to 16 or 32 KiB;
mappers 0 and 2 read CHR at the address. -/
def Obligations.FixedWindowsReadStraightThrough : Prop :=
  ∀ (s : State) (a : BitVec 15) (p : BitVec 13), 1 ≤ s.cfg.prgBanks →
    (s.map = .m0 → exec (.m0CpuRead a) s =
      .next (readAt s .prg (if s.cfg.prgBanks > 1 then a.toNat else a.toNat % 0x4000))) ∧
    (∀ r, s.map = .m3 r → exec (.m3CpuRead a) s =
      .next (readAt s .prg (if s.cfg.prgBanks > 1 then a.toNat else a.toNat % 0x4000))) ∧
    (s.map = .m0 → exec (.m0PpuRead p) s = .next (readAt s .chr p.toNat)) ∧
    (∀ r, s.map = .m2 r → exec (.m2PpuRead p) s = .next (readAt s .chr p.toNat))

/-- Rule R183 with rule R162: a CPU write of mapper 0 is claimed at the read's offset, and stores the
byte there only when `PRG_WRITABLE`. -/
def Obligations.MapperZeroWriteStoresOnlyIfWritable : Prop :=
  ∀ (s : State) (a : BitVec 15) (v : Byte), s.map = .m0 → 1 ≤ s.cfg.prgBanks →
    Memory.wf s.prg = true →
    let off := if s.cfg.prgBanks > 1 then a.toNat else a.toNat % 0x4000
    (s.cfg.prgWritable = false →
      exec (.m0CpuWrite a v) s = .next (answered s (.write (.offset .prg off)))) ∧
    (s.cfg.prgWritable = true →
      ∃ prg, exec (.m0CpuWrite a v) s =
          .next (answered { s with prgState := some prg } (.write (.offset .prg off))) ∧
        ∀ x, Memory.read prg x = if x = off then v else Memory.read s.prg x)

/-- Rules R185, R201, R215: a PPU write of mappers 0, 1 and 2 stores the byte at its address when CHR
is RAM, and is not claimed and changes nothing when CHR is ROM. Rules R225, R244, R271: a PPU write of
mappers 3, 4 and 9 is never claimed and changes nothing. -/
def Obligations.PatternWrites : Prop :=
  ∀ (s : State) (a : BitVec 13) (v : Byte) (i : Instr), Memory.wf s.chr = true →
    (((i = .m0PpuWrite a v ∧ s.map.id = .m0) ∨ (i = .m1PpuWrite a v ∧ s.map.id = .m1) ∨
        (i = .m2PpuWrite a v ∧ s.map.id = .m2)) →
      (s.cfg.chrBanks = 0 →
        ∃ chr, exec i s = .next (answered { s with chrState := some chr }
            (.write (.offset .chr a.toNat))) ∧
          ∀ x, Memory.read chr x = if x = a.toNat then v else Memory.read s.chr x) ∧
      (s.cfg.chrBanks ≠ 0 → exec i s = .next (answered s (.write .notClaimed)))) ∧
    (((i = .m3PpuWrite a v ∧ s.map.id = .m3) ∨ (i = .m4PpuWrite a v ∧ s.map.id = .m4) ∨
        (i = .m9PpuWrite a v ∧ s.map.id = .m9)) →
      exec i s = .next (answered s (.write .notClaimed)))

/-- Rules R212, R213: mapper 2 takes its low 16 KiB PRG bank from the low nibble, and its high window is
the last bank. Rules R222, R224: mapper 3 takes its 8 KiB CHR bank from the low two bits. -/
def Obligations.MapperTwoAndThreeBanks : Prop :=
  ∀ s : State,
    (∀ (r : M2State) (bank : BitVec 4) (a : BitVec 15), s.map = .m2 r →
      exec (.m2BankSelect bank) s = .next (registersAre s (.m2 { prgLo := bank })) ∧
      exec (.m2CpuRead a) s = .next (readAt s .prg
        (((if a.toNat < 0x4000 then r.prgLo.toNat else s.cfg.prgBanks - 1) * 0x4000 +
          a.toNat % 0x4000) % prgBytes s))) ∧
    (∀ (r : M3State) (bank : BitVec 2) (p : BitVec 13), s.map = .m3 r →
      exec (.m3ChrSelect bank) s = .next (registersAre s (.m3 { chrSel := bank })) ∧
      exec (.m3PpuRead p) s =
        .next (readAt s .chr ((r.chrSel.toNat * 0x2000 + p.toNat) % chrBytes s)))

/-! ### Events of every mapper -/

/-- Rule R300, with R186, R203, R216, R226, R248, R273: what `Reset` leaves in each mapper, and that it
leaves everything else alone. -/
def Obligations.ResetRestoresPowerOnBanks : Prop :=
  ∀ s : State,
    (s.map.id = .m0 → exec .m0Reset s = .next (answered s .none)) ∧
    (s.map.id = .m1 → exec .m1Reset s = .next (answered
      { s with map := .m1 { sr := 0, cnt := 0, ctrl := 0x1C, chr0 := 0, chr1 := 0, prg := 0,
                            lastStep := 0 } } .none)) ∧
    (s.map.id = .m2 → exec .m2Reset s = .next (answered
      { s with map := .m2 { prgLo := 0 } } .none)) ∧
    (s.map.id = .m3 → exec .m3Reset s = .next (answered
      { s with map := .m3 { chrSel := 0 } } .none)) ∧
    (s.map.id = .m4 → exec .m4Reset s = .next (answered
      { s with map := .m4 { target := 0, prgMode := false, chrInv := false,
                            bank := #v[0, 0, 0, 0, 0, 0, 0, 0],
                            chrOff := #v[0, 0x400, 0, 0x400, 0, 0, 0, 0],
                            prgOff := #v[0, 0, (2 * s.cfg.prgBanks - 2) * 0x2000,
                                         (2 * s.cfg.prgBanks - 1) * 0x2000],
                            mirror := .horizontal, irqReload := 0, irqCounter := 0,
                            irqEnable := false, irqActive := false } } .none)) ∧
    (s.map.id = .m9 → exec .m9Reset s = .next (answered
      { s with map := .m9 { prgSel := 0, chrFd0 := 0, chrFe0 := 0, chrFd1 := 0, chrFe1 := 0,
                            latch0 := s.cfg.latchReset0, latch1 := s.cfg.latchReset1,
                            mirror := .vertical } } .none))

/-- Rules R187, R202, R217, R227, R249, R272: what `Mirror` reports, and that it changes nothing. -/
def Obligations.MirrorReports : Prop :=
  ∀ s : State,
    (s.map.id = .m0 → exec .m0MirrorQ s = .next (answered s (.mirror .hardware))) ∧
    (∀ r, s.map = .m1 r → exec .m1MirrorQ s = .next (answered s (.mirror
      (if r.ctrl.toNat % 4 = 0 then .oneScreenLo else if r.ctrl.toNat % 4 = 1 then .oneScreenHi
        else if r.ctrl.toNat % 4 = 2 then .vertical else .horizontal)))) ∧
    (s.map.id = .m2 → exec .m2MirrorQ s = .next (answered s (.mirror .hardware))) ∧
    (s.map.id = .m3 → exec .m3MirrorQ s = .next (answered s (.mirror .hardware))) ∧
    (∀ r, s.map = .m4 r → exec .m4MirrorQ s = .next (answered s (.mirror r.mirror))) ∧
    (∀ r, s.map = .m9 r → exec .m9MirrorQ s = .next (answered s (.mirror r.mirror)))

/-- Rule R170: on mappers 0, 1, 2, 3 and 9 `Scanline` and `IrqClear` change nothing and `IrqState` is
false. -/
def Obligations.NoScanlineCounterOutsideMapperFour : Prop :=
  ∀ (s : State) (m : MapperId), s.map.id = m → m ≠ .m4 →
    exec (scanlineOf m) s = .next (answered s .none) ∧
    exec (irqStateOf m) s = .next (answered s (.irq false)) ∧
    exec (irqClearOf m) s = .next (answered s .none)

/-- Rule R304: what the vector read at $FFFC gives after `Reset`, per mapper. -/
def Obligations.ResetVectorOffsetOfEachMapper : Prop :=
  ∀ s : State, 1 ≤ s.cfg.prgBanks →
    ∃ t u data, exec (resetOf s.map.id) s = .next t ∧
      exec (cpuReadOf s.map.id 0x7FFC#15) t = .next u ∧
      u.out.resp = .read (.offset .prg
        (match s.map.id with
          | .m0 => if s.cfg.prgBanks = 1 then 0x3FFC else 0x7FFC
          | .m3 => if s.cfg.prgBanks = 1 then 0x3FFC else 0x7FFC
          | .m1 => (s.cfg.prgBanks - 1) * 0x4000 + 0x3FFC
          | .m2 => (s.cfg.prgBanks - 1) * 0x4000 + 0x3FFC
          | .m4 => (2 * s.cfg.prgBanks - 1) * 0x2000 + 0x1FFC
          | .m9 => (2 * s.cfg.prgBanks - 1) * 0x2000 + 0x1FFC)) (some data)

/-- Rules R193, R194, R232, R233: static RAM of mappers 1 and 4 is read and written at
`addr & 0x1FFF`, a write raises `RamWritten`, and no register changes. -/
def Obligations.StaticRamAccess : Prop :=
  ∀ (s : State) (index : BitVec 13) (v : Byte) (rd wr : Instr),
    ((rd = .m1SramRead index ∧ wr = .m1SramWrite index v ∧ s.map.id = .m1) ∨
      (rd = .m4SramRead index ∧ wr = .m4SramWrite index v ∧ s.map.id = .m4)) →
    Memory.wf s.sram = true →
    exec rd s = .next (answered s (.read (.internalRead (Memory.read s.sram index.toNat))
      (some (Memory.read s.sram index.toNat)))) ∧
    ∃ sram, exec wr s = .next { s with
        sramState := some sram
        out := { resp := .write .internalWrite, ramWritten := true, apuTick := false,
                 quarter := false, half := false, reloads := none } } ∧
      ∀ x, Memory.read sram x = if x = index.toNat then v else Memory.read s.sram x

/-! ### Mapper 1 -/

/-- Rules R195, R196, R197: a serial write remembers its step; if the gate accepts it, it shifts its
bit in, the fifth commits to the register its address selects, and a bit-7 write empties the loader
and sets PRG mode 3. -/
def Obligations.SerialPortWrites : Prop :=
  ∀ (s : State) (r : M1State) (bit : BitVec 1) (target : BitVec 2), s.map = .m1 r →
    let step := s.side.cpuStep
    let v := BitVec.ofNat 5 (r.sr.toNat / 2 + 16 * bit.toNat)
    (gateAccepts s.cfg.mmc1Accept r.lastStep step = false →
      exec (.m1SerialShift bit target) s = .next (registersAre s (.m1 { r with lastStep := step })) ∧
      exec .m1SerialReset s = .next (registersAre s (.m1 { r with lastStep := step }))) ∧
    (gateAccepts s.cfg.mmc1Accept r.lastStep step = true →
      exec .m1SerialReset s = .next (registersAre s (.m1 { r with
        sr := 0, cnt := 0, lastStep := step,
        ctrl := BitVec.ofNat 5 (r.ctrl.toNat % 4 + 12 + 16 * (r.ctrl.toNat / 16)) })) ∧
      (r.cnt ≠ 4 → exec (.m1SerialShift bit target) s = .next (registersAre s (.m1 { r with
        sr := v, cnt := r.cnt + 1, lastStep := step }))) ∧
      (r.cnt = 4 → exec (.m1SerialShift bit target) s = .next (registersAre s (.m1 { r with
        sr := 0, cnt := 0, lastStep := step,
        ctrl := if target.toNat = 0 then v else r.ctrl
        chr0 := if target.toNat = 1 then v else r.chr0
        chr1 := if target.toNat = 2 then v else r.chr1
        prg := if target.toNat = 3 then v else r.prg })))) ∧
    (s.cfg.mmc1Accept = .literal →
      gateAccepts s.cfg.mmc1Accept r.lastStep step = decide (step ≠ r.lastStep + 1)) ∧
    (s.cfg.mmc1Accept = .inverted →
      gateAccepts s.cfg.mmc1Accept r.lastStep step = decide (step = r.lastStep + 1)) ∧
    (s.cfg.mmc1Accept = .all → gateAccepts s.cfg.mmc1Accept r.lastStep step = true)

/-- Rule R96 (a): five accepted writes from an empty loader commit `b0 + 2*b1 + 4*b2 + 8*b3 + 16*b4` to
the register that the fifth address alone selects, and leave the other registers as they were. -/
def Obligations.FiveSerialBitsCommitTheirNumber : Prop :=
  ∀ (s : State) (r : M1State) (b0 b1 b2 b3 b4 : BitVec 1) (t0 t1 t2 t3 t4 : BitVec 2)
    (n0 n1 n2 n3 n4 : Nat), s.map = .m1 r → r.cnt = 0 →
    gateAccepts s.cfg.mmc1Accept r.lastStep n0 = true →
    gateAccepts s.cfg.mmc1Accept n0 n1 = true → gateAccepts s.cfg.mmc1Accept n1 n2 = true →
    gateAccepts s.cfg.mmc1Accept n2 n3 = true → gateAccepts s.cfg.mmc1Accept n3 n4 = true →
    let v := BitVec.ofNat 5
      (b0.toNat + 2 * b1.toNat + 4 * b2.toNat + 8 * b3.toNat + 16 * b4.toNat)
    serialWrites [(n0, b0, t0), (n1, b1, t1), (n2, b2, t2), (n3, b3, t3), (n4, b4, t4)] s =
      .next (registersAre { s with side := { s.side with cpuStep := n4 } } (.m1 { r with
        sr := 0, cnt := 0, lastStep := n4,
        ctrl := if t4.toNat = 0 then v else r.ctrl
        chr0 := if t4.toNat = 1 then v else r.chr0
        chr1 := if t4.toNat = 2 then v else r.chr1
        prg := if t4.toNat = 3 then v else r.prg }))

/-- Rules R198, R199: the 16 KiB bank of each CPU window of mapper 1 by PRG mode `ctrl[3:2]`. -/
def Obligations.MapperOnePrgWindows : Prop :=
  ∀ (s : State) (r : M1State) (a : BitVec 15), s.map = .m1 r →
    let mode := r.ctrl.toNat / 4 % 4
    let high := a.toNat / 0x4000
    let prg := r.prg.toNat % 16
    let bank :=
      if mode = 2 then (if high = 0 then 0 else prg)
      else if mode = 3 then (if high = 0 then prg else s.cfg.prgBanks - 1)
      else 2 * (prg / 2) + high
    exec (.m1CpuRead a) s =
      .next (readAt s .prg ((bank * 0x4000 + a.toNat % 0x4000) % prgBytes s))

/-- Rule R200: the CHR windows of mapper 1 by CHR mode `ctrl[4]`; CHR RAM is not banked. -/
def Obligations.MapperOneChrWindows : Prop :=
  ∀ (s : State) (r : M1State) (p : BitVec 13), s.map = .m1 r →
    exec (.m1PpuRead p) s = .next (readAt s .chr
      (if s.cfg.chrBanks = 0 then p.toNat
       else if r.ctrl.toNat / 16 = 1 then
        ((if p.toNat < 0x1000 then r.chr0.toNat else r.chr1.toNat) * 0x1000 + p.toNat % 0x1000) %
          chrBytes s
       else (r.chr0.toNat / 2 * 2 * 0x1000 + p.toNat) % chrBytes s))

/-! ### Mapper 4 -/

/-- Rules R234, R236 to R241: the register writes of mapper 4 other than bank data, each with the
registers it leaves; the latched offsets and every other register stay. -/
def Obligations.MapperFourRegisterWrites : Prop :=
  ∀ (s : State) (r : M4State) (inv mode horizontal : Bool) (target : BitVec 3) (v : Byte),
    s.map = .m4 r →
    exec (.m4BankSelect inv mode target) s =
      .next (registersAre s (.m4 { r with target := target, prgMode := mode, chrInv := inv })) ∧
    exec (.m4Mirror horizontal) s = .next (registersAre s (.m4 { r with
      mirror := if horizontal then .horizontal else .vertical })) ∧
    exec .m4RamProtect s = .next (answered s (.write .notClaimed)) ∧
    exec (.m4IrqLatch v) s = .next (registersAre s (.m4 { r with irqReload := v })) ∧
    exec .m4IrqReload s = .next (registersAre s (.m4 { r with irqCounter := 0 })) ∧
    exec .m4IrqDisable s =
      .next (registersAre s (.m4 { r with irqEnable := false, irqActive := false })) ∧
    exec .m4IrqEnable s = .next (registersAre s (.m4 { r with irqEnable := true }))

/-- Rule R235: a bank-data write loads `R[target]` and recomputes all twelve offsets from the registers
and the flags as they now are. -/
def Obligations.BankDataRecomputesAllOffsets : Prop :=
  ∀ (s : State) (r : M4State) (v : Byte), s.map = .m4 r →
    ∃ r' : M4State, exec (.m4BankData v) s = .next (registersAre s (.m4 r')) ∧
      r' = { r with bank := r'.bank, chrOff := r'.chrOff, prgOff := r'.prgOff } ∧
      (∀ j, (h : j < 8) → r'.bank[j] = if j = r.target.toNat then v else r.bank[j]) ∧
      (let pair := fun b : Byte => b.toNat / 2 * 2 * 0x400
       let one := fun b : Byte => b.toNat * 0x400
       let prg := fun b : Byte => b.toNat % 64 * 0x2000
       let R := r'.bank
       r'.chrOff.toList =
         (if r.chrInv then
            [one R[2], one R[3], one R[4], one R[5],
             pair R[0], pair R[0] + 0x400, pair R[1], pair R[1] + 0x400]
          else
            [pair R[0], pair R[0] + 0x400, pair R[1], pair R[1] + 0x400,
             one R[2], one R[3], one R[4], one R[5]]) ∧
       r'.prgOff.toList =
         (if r.prgMode then
            [(2 * s.cfg.prgBanks - 2) * 0x2000, prg R[7], prg R[6], (2 * s.cfg.prgBanks - 1) * 0x2000]
          else
            [prg R[6], prg R[7], (2 * s.cfg.prgBanks - 2) * 0x2000, (2 * s.cfg.prgBanks - 1) * 0x2000]))

/-- Rules R242, R243: mapper 4 reads at the latched offset of the 8 KiB PRG or 1 KiB CHR window. -/
def Obligations.MapperFourWindows : Prop :=
  ∀ (s : State) (r : M4State) (a : BitVec 15) (p : BitVec 13), s.map = .m4 r →
    exec (.m4CpuRead a) s = .next (readAt s .prg
      ((r.prgOff.toList.getD (a.toNat / 0x2000) 0 + a.toNat % 0x2000) % prgBytes s)) ∧
    exec (.m4PpuRead p) s = .next (readAt s .chr
      ((r.chrOff.toList.getD (p.toNat / 0x400) 0 + p.toNat % 0x400) % chrBytes s))

/-- Rules R245, R246, R247: the scanline counter, the poll and the acknowledgement of mapper 4. -/
def Obligations.ScanlineCounterAndRequest : Prop :=
  ∀ (s : State) (r : M4State), s.map = .m4 r →
    (∃ counter : Byte,
      counter.toNat = (if r.irqCounter.toNat = 0 then r.irqReload.toNat else r.irqCounter.toNat - 1) ∧
      exec .m4Scanline s = .next (answered { s with map := .m4 { r with
        irqCounter := counter
        irqActive := r.irqActive || (decide (counter.toNat = 0) && r.irqEnable) } } .none)) ∧
    exec .m4IrqState s = .next (answered s (.irq r.irqActive)) ∧
    exec .m4IrqClear s =
      .next (answered { s with map := .m4 { r with irqActive := false } } .none)

/-- From a counter at 0, with reload value `n`, the counter after `k` calls of `Scanline` is
`n - (k - 1) mod (n + 1)`, and an enabled request that nothing clears is first up after `n + 1` calls:
the period is `n + 1` (rules R245, R250, R313). -/
def Obligations.ScanlinePeriodIsReloadPlusOne : Prop :=
  ∀ (s : State) (r : M4State) (k : Nat), s.map = .m4 r → r.irqCounter.toNat = 0 →
    r.irqActive = false → 1 ≤ k →
    ∃ (t : State) (counter : Byte), execTimes k .m4Scanline s = .next t ∧
      counter.toNat = r.irqReload.toNat - (k - 1) % (r.irqReload.toNat + 1) ∧
      t = answered { s with map := .m4 { r with
        irqCounter := counter
        irqActive := decide (r.irqReload.toNat + 1 ≤ k) && r.irqEnable } } .none

/-! ### Mapper 9 -/

/-- Rules R263 to R267, R269, R270: the register writes of mapper 9. -/
def Obligations.MapperNineRegisterWrites : Prop :=
  ∀ (s : State) (r : M9State) (nibble : BitVec 4) (bank : BitVec 5) (horizontal : Bool),
    s.map = .m9 r →
    exec .m9NopWrite s = .next (answered s (.write .notClaimed)) ∧
    exec (.m9PrgSelect nibble) s = .next (registersAre s (.m9 { r with prgSel := nibble })) ∧
    exec (.m9ChrFd0 bank) s = .next (registersAre s (.m9 { r with chrFd0 := bank })) ∧
    exec (.m9ChrFe0 bank) s = .next (registersAre s (.m9 { r with chrFe0 := bank })) ∧
    exec (.m9ChrFd1 bank) s = .next (registersAre s (.m9 { r with chrFd1 := bank })) ∧
    exec (.m9ChrFe1 bank) s = .next (registersAre s (.m9 { r with chrFe1 := bank })) ∧
    exec (.m9Mirror horizontal) s = .next (registersAre s (.m9 { r with
      mirror := if horizontal then .horizontal else .vertical }))

/-- Rule R262: window 0 of mapper 9 is switchable, the other three hold the last three 8 KiB banks; with
one PRG bank the third-last is bank 1. -/
def Obligations.MapperNinePrgWindows : Prop :=
  ∀ (s : State) (r : M9State) (a : BitVec 15), s.map = .m9 r → 1 ≤ s.cfg.prgBanks →
    let window := a.toNat / 0x2000
    let bank :=
      if window = 0 then r.prgSel.toNat % (2 * s.cfg.prgBanks)
      else if window = 1 then (if s.cfg.prgBanks = 1 then 1 else 2 * s.cfg.prgBanks - 3)
      else if window = 2 then 2 * s.cfg.prgBanks - 2
      else 2 * s.cfg.prgBanks - 1
    exec (.m9CpuRead a) s = .next (readAt s .prg (bank * 0x2000 + a.toNat % 0x2000))

/-- Rule R268: a PPU read of mapper 9 is served from the bank its window's latch selects before the
read, and then moves that latch if its address is in one of the four ranges. -/
def Obligations.PpuReadThenMovesTheLatch : Prop :=
  ∀ (s : State) (r : M9State) (i : Instr) (low : BitVec 4) (p : BitVec 13), s.map = .m9 r →
    ((i = .m9PpuReadFd0 low ∧ p.toNat = 0x0FD0 + low.toNat) ∨
      (i = .m9PpuReadFe0 low ∧ p.toNat = 0x0FE0 + low.toNat) ∨
      (i = .m9PpuReadFd1 low ∧ p.toNat = 0x1FD0 + low.toNat) ∨
      (i = .m9PpuReadFe1 low ∧ p.toNat = 0x1FE0 + low.toNat) ∨ i = .m9PpuRead p) →
    let a := p.toNat
    let bank :=
      if a < 0x1000 then (if r.latch0 = .fd then r.chrFd0.toNat else r.chrFe0.toNat)
      else (if r.latch1 = .fd then r.chrFd1.toNat else r.chrFe1.toNat)
    exec i s = .next { readAt s .chr ((bank * 0x1000 + a % 0x1000) % chrBytes s) with
      map := .m9 { r with
        latch0 := if 0x0FD0 ≤ a ∧ a ≤ 0x0FDF then .fd
          else if 0x0FE0 ≤ a ∧ a ≤ 0x0FEF then .fe else r.latch0
        latch1 := if 0x1FD0 ≤ a ∧ a ≤ 0x1FDF then .fd
          else if 0x1FE0 ≤ a ∧ a ≤ 0x1FEF then .fe else r.latch1 } }

/-! ### APU register writes -/

/-- Rules R124, R125, R126: an envelope write sets its channel's halt flag, its envelope's `disable`
flag and volume, and nothing else. -/
def Obligations.EnvelopeWrites : Prop :=
  ∀ (s : State) (duty : BitVec 2) (halt constant : Bool) (volume : BitVec 4),
    exec (.apuP1Env duty halt constant volume) s = .next (apuIs s { s.apu with
      haltP1 := halt, envP1 := { s.apu.envP1 with disable := constant, volume := volume } }) ∧
    exec (.apuP2Env duty halt constant volume) s = .next (apuIs s { s.apu with
      haltP2 := halt, envP2 := { s.apu.envP2 with disable := constant, volume := volume } }) ∧
    exec (.apuNoiEnv halt constant volume) s = .next (apuIs s { s.apu with
      haltN := halt, envN := { s.apu.envN with disable := constant, volume := volume } })

/-- Rules R127 to R130: a length write loads the counter from `LENGTH_TABLE`, whether or not the channel
is enabled, and restarts the envelope; the triangle's sets the linear reload flag. -/
def Obligations.LengthWrites : Prop :=
  ∀ (s : State) (index : BitVec 5) (high : BitVec 3),
    let loaded := s.cfg.lengthTable.toList.getD index.toNat 0
    exec (.apuP1Len index high) s = .next (apuIs s { s.apu with
      lenP1 := loaded, envP1 := { s.apu.envP1 with start := true } }) ∧
    exec (.apuP2Len index high) s = .next (apuIs s { s.apu with
      lenP2 := loaded, envP2 := { s.apu.envP2 with start := true } }) ∧
    exec (.apuTriLen index high) s = .next (apuIs s { s.apu with
      lenT := loaded, linReloadFlag := true }) ∧
    exec (.apuNoiLen index) s = .next (apuIs s { s.apu with
      lenN := loaded, envN := { s.apu.envN with start := true } })

/-- Rules R132, R136, R142: the linear-counter write, the enables, and the four DMC sinks. -/
def Obligations.LinearStatusAndDmcWrites : Prop :=
  ∀ (s : State) (halt : Bool) (reload : BitVec 7) (dmc noise triangle pulse2 pulse1 : Bool) (v : Byte),
    exec (.apuTriLinear halt reload) s =
      .next (apuIs s { s.apu with haltT := halt, linReload := reload }) ∧
    exec (.apuStatus dmc noise triangle pulse2 pulse1) s = .next (apuIs s { s.apu with
      enP1 := pulse1, enP2 := pulse2, enT := triangle, enN := noise, enDmc := dmc }) ∧
    exec (.apuDmc0 v) s = .next (apuIs s { s.apu with dmcReg := s.apu.dmcReg.set 0 v }) ∧
    exec (.apuDmc1 v) s = .next (apuIs s { s.apu with dmcReg := s.apu.dmcReg.set 1 v }) ∧
    exec (.apuDmc2 v) s = .next (apuIs s { s.apu with dmcReg := s.apu.dmcReg.set 2 v }) ∧
    exec (.apuDmc3 v) s = .next (apuIs s { s.apu with dmcReg := s.apu.dmcReg.set 3 v })

/-- Rules R137, R139, R140, R141, R97 (d): the writes that change no state of the block. A sweep write
changes none either; its byte is handed to its sweep unit (rule R138), in a list of the model's own (log
8). -/
def Obligations.WritesConsumedOutsideTheBlock : Prop :=
  ∀ (s : State) (v : Byte),
    (∀ i ∈ [Instr.apuFrame v, .apuP1Tlo v, .apuP2Tlo v, .apuTriTlo v, .apuNoiPeriod v,
        .apuUnused4009 v, .apuUnused400d v],
      exec i s = .next (answered s (.write .notClaimed))) ∧
    exec (.apuP1Sweep v) s = .next (answered
      { s with inbox := { s.inbox with p1 := s.inbox.p1 ++ [v] } } (.write .notClaimed)) ∧
    exec (.apuP2Sweep v) s = .next (answered
      { s with inbox := { s.inbox with p2 := s.inbox.p2 ++ [v] } } (.write .notClaimed))

/-- Rules R301, R47: `ApuReset` leaves every APU field 0 or false and touches nothing else. That it also
empties the lists of bytes the sweep units hold is the model's choice (log 8). -/
def Obligations.ApuResetClearsTheApu : Prop :=
  ∀ s : State,
    let env : Envelope := { start := false, disable := false, volume := 0, divider := 0, decay := 0 }
    let sweep : SweepState :=
      { enabled := false, negate := false, shift := 0, period := 0, timer := 0, change := 0,
        mute := false }
    exec .apuReset s = .next (answered { s with
      inbox := { p1 := [], p2 := [] }
      apu :=
      { tick := 0, fc := 0, envP1 := env, envP2 := env, envN := env,
        lenP1 := 0, lenP2 := 0, lenT := 0, lenN := 0,
        haltP1 := false, haltP2 := false, haltN := false, haltT := false,
        enP1 := false, enP2 := false, enT := false, enN := false, enDmc := false,
        linCounter := 0, linReload := 0, linReloadFlag := false,
        sweepP1 := sweep, sweepP2 := sweep, dmcReg := #v[0, 0, 0, 0] } } .none)

/-! ### The frame sequencer and the units it clocks -/

/-- Rule R111: a system tick emits an APU tick exactly when the old `tick` is a multiple of 6, and
counts on by one. -/
def Obligations.SystemTickEmitsEverySixth : Prop :=
  ∀ s : State,
    (s.apu.tick % 6 ≠ 0 → exec .sysTick s =
      .next (answered { s with apu := { s.apu with tick := s.apu.tick + 1 } } .none)) ∧
    (s.apu.tick % 6 = 0 → ∃ t, exec .apuTick s = .next t ∧
      exec .sysTick s = .next { t with
        apu := { t.apu with tick := s.apu.tick + 1 }, out := { t.out with apuTick := true } })

/-- Rule R112: an APU tick counts `fc` on, fires the events of the count it reaches, the quarter-frame
event before the half-frame event (rules R113, R114), and returns `fc` to 0 at 14916. That the reload
values which the sweep units return (rule R134) leave the block with the half-frame event is the model's
choice (log 8). -/
def Obligations.ApuTickFiresAtTheFourCounts : Prop :=
  ∀ s : State,
    let count := s.apu.fc + 1
    let counted : State := { s with apu := { s.apu with fc := if count = 14916 then 0 else count } }
    (count ∉ [3729, 7457, 11186, 14916] → exec .apuTick s = .next (answered counted .none)) ∧
    (count ∈ [3729, 11186] → ∃ q, exec .apuQuarter counted = .next q ∧
      exec .apuTick s = .next { q with out := { q.out with quarter := true } }) ∧
    (count ∈ [7457, 14916] → ∃ q h, exec .apuQuarter counted = .next q ∧
      exec .apuHalf q = .next h ∧
      exec .apuTick s = .next { h with out := { h.out with quarter := true, half := true } })

/-- Rule R113 with rules R121 and R133: a quarter-frame event clocks the three envelopes, each with its
channel's halt flag as loop, and the linear counter, and changes nothing else. -/
def Obligations.QuarterFrameClocks : Prop :=
  ∀ s : State, ∃ (p1 p2 n : Envelope) (lin : BitVec 7),
    exec .apuQuarter s = .next (answered { s with apu := { s.apu with
      envP1 := p1, envP2 := p2, envN := n, linCounter := lin,
      linReloadFlag := if s.apu.haltT = false then false else s.apu.linReloadFlag } } .none) ∧
    EnvClocked s.apu.envP1 p1 s.apu.haltP1 ∧ EnvClocked s.apu.envP2 p2 s.apu.haltP2 ∧
    EnvClocked s.apu.envN n s.apu.haltN ∧
    (s.apu.linReloadFlag = true → lin = s.apu.linReload) ∧
    (s.apu.linReloadFlag = false → lin.toNat = s.apu.linCounter.toNat - 1)

/-- Rule R114 with rules R123 and R135: a half-frame event clocks the four length counters and the two
sweep units, and changes nothing else. What a sweep unit becomes, and the reload value it returns, are
free values (rule R134), but for its mute bit, which that reload value sets; the bytes it was handed are
consumed (log 8). -/
def Obligations.HalfFrameClocks : Prop :=
  ∀ s : State, ∃ (p1 p2 t n : Byte) (sweep1 sweep2 : SweepState) (reload1 reload2 : Nat),
    exec .apuHalf s = .next { s with
      apu := { s.apu with
        lenP1 := p1, lenP2 := p2, lenT := t, lenN := n, sweepP1 := sweep1, sweepP2 := sweep2 }
      inbox := { p1 := [], p2 := [] }
      out := { resp := .none, ramWritten := false, apuTick := false, quarter := false, half := false,
               reloads := some (reload1, reload2) } } ∧
    (sweep1.mute = true ↔ reload1 < 8 ∨ 0x7FF < reload1) ∧
    (sweep2.mute = true ↔ reload2 < 8 ∨ 0x7FF < reload2) ∧
    LenClocked s.apu.lenP1 p1 s.apu.enP1 s.apu.haltP1 ∧
    LenClocked s.apu.lenP2 p2 s.apu.enP2 s.apu.haltP2 ∧
    LenClocked s.apu.lenT t s.apu.enT s.apu.haltT ∧
    LenClocked s.apu.lenN n s.apu.enN s.apu.haltN

/-- Rule R115: from `tick = 0` and `fc = 0`, the `n`-th system tick emits an APU tick exactly when
`(n - 1) mod 6 = 0`; that is APU tick number `k = (n - 1)/6 + 1`, and it fires the events of `k mod
14916`. -/
def Obligations.FrameSequencerSchedule : Prop :=
  ∀ (s : State) (n : Nat), s.apu.tick = 0 → s.apu.fc = 0 → 1 ≤ n →
    ∃ t, execTimes n .sysTick s = .next t ∧ t.apu.tick = n ∧ t.apu.fc = ((n + 5) / 6) % 14916 ∧
      (let k := ((n - 1) / 6 + 1) % 14916
       t.out.apuTick = decide ((n - 1) % 6 = 0) ∧
       t.out.quarter = decide ((n - 1) % 6 = 0 ∧ k ∈ [3729, 7457, 11186, 0]) ∧
       t.out.half = decide ((n - 1) % 6 = 0 ∧ k ∈ [7457, 0]))

/-- Rule R121's worked period, for the three envelopes: from decay 15 and a full divider, after `j`
quarter-frame clocks an envelope is at level `15 - j/(v+1)`, `v + 1` clocks a level; with `loop` it runs
through the sixteen levels again and again, without it the decay stays at 0. -/
def Obligations.EnvelopeDecaySchedule : Prop :=
  ∀ (s : State) (j : Nat), ∃ t, execTimes j .apuQuarter s = .next t ∧
    ∀ c ∈ [(s.apu.envP1, t.apu.envP1, s.apu.haltP1), (s.apu.envP2, t.apu.envP2, s.apu.haltP2),
        (s.apu.envN, t.apu.envN, s.apu.haltN)],
      c.1.start = false → c.1.decay.toNat = 15 → c.1.divider = c.1.volume →
      (let v := c.1.volume.toNat
       c.2.1.volume = c.1.volume ∧
       c.2.1.divider.toNat = v - j % (v + 1) ∧
       (c.2.2 = true → c.2.1.decay.toNat = 15 - j / (v + 1) % 16) ∧
       (c.2.2 = false → c.2.1.decay.toNat = 15 - j / (v + 1)))

/-- Rule R123's two properties and its count, over any number of half-frame clocks, for the four
counters: halted, a counter is invariant; disabled, it is 0 after the first; otherwise it counts down
to 0 and stays there. -/
def Obligations.LengthCountersOverManyHalfFrames : Prop :=
  ∀ (s : State) (k : Nat), ∃ t, execTimes k .apuHalf s = .next t ∧
    ∀ c ∈ [(s.apu.lenP1, t.apu.lenP1, s.apu.enP1, s.apu.haltP1),
        (s.apu.lenP2, t.apu.lenP2, s.apu.enP2, s.apu.haltP2),
        (s.apu.lenT, t.apu.lenT, s.apu.enT, s.apu.haltT),
        (s.apu.lenN, t.apu.lenN, s.apu.enN, s.apu.haltN)],
      (c.2.2.1 = true → c.2.2.2 = true → c.2.1 = c.1) ∧
      (c.2.2.1 = false → 1 ≤ k → c.2.1.toNat = 0) ∧
      (c.2.2.1 = true → c.2.2.2 = false → c.2.1.toNat = c.1.toNat - k)

/-! ### The mixer and the outputs -/

/-- Rules R150 to R153: `Mix` changes nothing; in exact arithmetic and on its domain it answers the
document's formulas on the operands after muting, each term 0 where its sum is 0. In an implementation's
arithmetic it answers the same formulas in that arithmetic's three operations, which are free values
(rules R6, R155). Off the domain the sample is a free value (log 9). -/
def Obligations.MixFollowsTheFormulas : Prop :=
  ∀ s : State,
    let o := s.side.mix
    let p1 : Rat := if o.uP1 then o.p1 else 0
    let p2 : Rat := if o.uP2 then o.p2 else 0
    let t : Rat := if o.uT then o.t else 0
    let n : Rat := if o.uN then o.n else 0
    let pulse : Rat := if p1 + p2 = 0 then 0 else 2397 / 25 / (8128 / (p1 + p2) + 100)
    let tnd : Rat :=
      if t / 8227 + n / 12241 = 0 then 0
      else 15979 / 100 / (1 / (t / 8227 + n / 12241) + 100)
    let real := Sample.real
    let add := Config.mixAdd
    let div := Config.mixDiv
    let pulseSum := add (real p1) (real p2)
    let tndSum := add (div (real t) (real 8227)) (div (real n) (real 12241))
    let pulse' := if pulseSum = real 0 then real 0
      else div (real (2397 / 25)) (add (div (real 8128) pulseSum) (real 100))
    let tnd' := if tndSum = real 0 then real 0
      else div (real (15979 / 100)) (add (div (real 1) tndSum) (real 100))
    (∃ v, exec .apuMix s = .next (answered s (.sample v))) ∧
    (0 ≤ p1 → 0 ≤ p2 → 0 ≤ t → 0 ≤ n →
      (s.cfg.mixArith = .exact →
        exec .apuMix s = .next (answered s (.sample (real ((pulse + tnd) * 10))))) ∧
      (s.cfg.mixArith = .implementation →
        exec .apuMix s =
          .next (answered s (.sample (Config.mixMul (add pulse' tnd') (real 10))))))

/-- Rule R156 (a), (b) and (c) in exact arithmetic: the output is 0 only for silence, lies in
`[0, 25.567)`, the pulse term's share below 9.588 and the other's below 15.979; it grows with the pulse
sum, with the triangle and with the noise; and two pulse samples together give less than the sum of what
each gives alone. -/
def Obligations.MixIsBoundedAndNotAdditive : Prop :=
  ∀ p1 p2 t n : Rat, 0 ≤ p1 → 0 ≤ p2 → 0 ≤ t → 0 ≤ n →
    let mix := fun a b c d : Rat => mixExact mixConstants ⟨a, b, c, d, true, true, true, true⟩
    (mix p1 p2 t n = 0 ↔ p1 = 0 ∧ p2 = 0 ∧ t = 0 ∧ n = 0) ∧
    0 ≤ mix p1 p2 t n ∧ mix p1 p2 t n < 25567 / 1000 ∧
    mix p1 p2 0 0 < 9588 / 1000 ∧ mix 0 0 t n < 15979 / 1000 ∧
    (∀ q1 q2, 0 ≤ q1 → 0 ≤ q2 → p1 + p2 < q1 + q2 → mix p1 p2 t n < mix q1 q2 t n) ∧
    (∀ t', t < t' → mix p1 p2 t n < mix p1 p2 t' n) ∧
    (∀ n', n < n' → mix p1 p2 t n < mix p1 p2 t n') ∧
    (0 < p1 → 0 < p2 → mix p1 p2 0 0 < mix p1 0 0 0 + mix 0 p2 0 0)

/-- Rules R122, R168, R135: the outputs that are functions of the state. `env_out`; the mode a consumer
of a `Mirror` report uses, which for HARDWARE is the cartridge's `hw_mirror`; and after every operation,
from every state, each sweep mute flag, true exactly when the timer's reload value is below 8 or above
0x7FF, whatever the unit holds. That the reload value is the one presented beside the operation, or the
one the unit returned in it, is the model's choice (log 8). -/
def Obligations.EnvelopeOutputEffectiveMirrorAndSweepMute : Prop :=
  (∀ e : Envelope, (e.disable = true → e.output = e.volume) ∧
    (e.disable = false → e.output = e.decay)) ∧
  (∀ (c : Cfg) (m : MirrorMode), m ≠ .hardware → effectiveMirror c m = m) ∧
  (∀ c : Cfg, effectiveMirror c .hardware =
    (match c.hwMirror with
      | .horizontal => .horizontal
      | .vertical => .vertical
      | .fourScreen => .fourScreen)) ∧
  (∀ (s u : State) (t : Transaction) (rest : List Transaction), s.pending = t :: rest →
    step s = .next u →
    (u.out.reloads = none →
      (u.sweepMuted .p1 = true ↔ t.side.reloadP1 < 8 ∨ 0x7FF < t.side.reloadP1) ∧
      (u.sweepMuted .p2 = true ↔ t.side.reloadP2 < 8 ∨ 0x7FF < t.side.reloadP2)) ∧
    (∀ reload1 reload2, u.out.reloads = some (reload1, reload2) →
      (u.sweepMuted .p1 = true ↔ reload1 < 8 ∨ 0x7FF < reload1) ∧
      (u.sweepMuted .p2 = true ↔ reload2 < 8 ∨ 0x7FF < reload2)))
end

