-- ==== Sys2Proof/Laws/Decode.lean ====
section
/-! SUPPORT. Fields of packed words and addresses, and what a match with one row of the opcode map
says about the fields of a word. -/

namespace Sys2Proof

/-! ### Fields of a concatenation -/

/-- The low part of a concatenation. -/
theorem extract_append_low {n m : Nat} (x : BitVec n) (y : BitVec m) :
    (x ++ y).extractLsb' 0 m = y := by
  apply BitVec.eq_of_getLsbD_eq
  intro i hi
  simp [hi, BitVec.getLsbD_append]

/-- A field inside the high part of a concatenation. -/
theorem extract_append_high {n m : Nat} (x : BitVec n) (y : BitVec m) (s l : Nat) :
    (x ++ y).extractLsb' (m + s) l = x.extractLsb' s l := by
  apply BitVec.eq_of_getLsbD_eq
  intro i hi
  have h1 : ¬ m + s + i < m := by omega
  have h2 : m + s + i - m = s + i := by omega
  simp [hi, BitVec.getLsbD_append, h1, h2]

/-- A field inside the low part of a concatenation. -/
theorem extract_append_inside {n m : Nat} (x : BitVec n) (y : BitVec m) (s l : Nat)
    (h : s + l ≤ m) : (x ++ y).extractLsb' s l = y.extractLsb' s l := by
  apply BitVec.eq_of_getLsbD_eq
  intro i hi
  have h1 : s + i < m := by omega
  simp [hi, BitVec.getLsbD_append, h1]

/-- The whole of a word as a field. -/
theorem extract_whole {n : Nat} (x : BitVec n) : x.extractLsb' 0 n = x := by
  apply BitVec.eq_of_getLsbD_eq
  intro i hi
  simp [hi]

/-! ### The three fields of a packed word -/

@[simp] theorem Tw.kind_pack (k : BitVec 3) (a : BitVec 16) (d : Byte) :
    (Tw.pack k a d).kind = k := by
  have h1 := extract_append_high (k ++ a) d 16 3
  have h2 := extract_append_high k a 0 3
  exact (h1.trans h2).trans (extract_whole k)

@[simp] theorem Tw.addr_pack (k : BitVec 3) (a : BitVec 16) (d : Byte) :
    (Tw.pack k a d).addr = a := by
  have h1 := extract_append_high (k ++ a) d 0 16
  exact h1.trans (extract_append_low k a)

@[simp] theorem Tw.data_pack (k : BitVec 3) (a : BitVec 16) (d : Byte) :
    (Tw.pack k a d).data = d := extract_append_low (k ++ a) d

/-- A word is its three fields (rule R90). -/
theorem Tw.pack_fields (w : Tw) : Tw.pack w.kind w.addr w.data = w := by
  apply BitVec.eq_of_getLsbD_eq
  intro i hi
  unfold Tw.pack Tw.kind Tw.addr Tw.data
  simp only [BitVec.getLsbD_append, BitVec.getLsbD_extractLsb']
  by_cases h1 : i < 8
  · simp [h1]
  · by_cases h2 : i - 8 < 16
    · have : 8 + (i - 8) = i := by omega
      simp [h1, h2, this]
    · have h3 : i - 8 - 16 < 3 := by omega
      have : 24 + (i - 8 - 16) = i := by omega
      simp [h1, h2, h3, this]

/-! ### A mask of one run of bits -/

/-- Masking one run of bits and comparing says what that field of the word is. -/
theorem mask_eq_iff_field {w : Nat} (x : BitVec w) (lo n : Nat) (v : BitVec n) (h : lo + n ≤ w) :
    x &&& ((BitVec.allOnes n).setWidth w <<< lo) = v.setWidth w <<< lo ↔
      x.extractLsb' lo n = v := by
  constructor
  · intro e
    apply BitVec.eq_of_getLsbD_eq
    intro i hi
    have hb := congrArg (fun b => b.getLsbD (lo + i)) e
    have h1 : lo + i < w := by omega
    have h2 : ¬ lo + i < lo := by omega
    have h3 : lo + i - lo = i := by omega
    have h4 : i < w := by omega
    simpa [hi, h1, h2, h3, h4] using hb
  · intro e
    apply BitVec.eq_of_getLsbD_eq
    intro i hi
    by_cases h1 : i < lo
    · simp [hi, h1]
    · by_cases h2 : i - lo < n
      · have hb := congrArg (fun b => b.getLsbD (i - lo)) e
        have h3 : lo + (i - lo) = i := by omega
        have h4 : i - lo < w := by omega
        simpa [hi, h1, h2, h3, h4] using hb
      · have h5 : v.getLsbD (i - lo) = false := BitVec.getLsbD_of_ge _ _ (by omega)
        simp [hi, h1, h2, h5]

end Sys2Proof
end

