-- ==== Sys2Proof/Laws/Memory.lean ====
section
/-! SUPPORT. The laws of the backing arrays: read after write, and that every memory operation keeps
the canonical form and the array's size. -/

namespace Sys2Proof.Machine

/-! ### The canonical form -/

theorem Memory.sortedFrom_cons {low a : Nat} {b : Byte} {rest : Memory} :
    Memory.sortedFrom low ((a, b) :: rest) = true ↔
      low ≤ a ∧ b ≠ 0 ∧ Memory.sortedFrom (a + 1) rest = true := by
  simp [Memory.sortedFrom, and_assoc]

theorem Memory.sortedFrom_mono {m : Memory} {low low' : Nat} (h : Memory.sortedFrom low m = true)
    (hle : low' ≤ low) : Memory.sortedFrom low' m = true := by
  cases m with
  | nil => rfl
  | cons c rest =>
    obtain ⟨h1, h2, h3⟩ := Memory.sortedFrom_cons.1 h
    exact Memory.sortedFrom_cons.2 ⟨by omega, h2, h3⟩

/-- The entry for one offset, before entries with larger offsets, is in canonical form. -/
theorem Memory.sortedFrom_entry_append {low off : Nat} {v : Byte} {rest : Memory} (hle : low ≤ off)
    (h : Memory.sortedFrom (off + 1) rest = true) :
    Memory.sortedFrom low (Memory.entry off v ++ rest) = true := by
  unfold Memory.entry
  split
  · exact Memory.sortedFrom_mono h (by omega)
  · exact Memory.sortedFrom_cons.2 ⟨hle, by assumption, h⟩

theorem Memory.sortedFrom_write {m : Memory} {low off : Nat} {v : Byte}
    (h : Memory.sortedFrom low m = true) (hle : low ≤ off) :
    Memory.sortedFrom low (Memory.write m off v) = true := by
  induction m generalizing low with
  | nil => simpa [Memory.write] using Memory.sortedFrom_entry_append (rest := []) (v := v) hle rfl
  | cons c rest ih =>
    obtain ⟨a, b⟩ := c
    obtain ⟨h1, h2, h3⟩ := Memory.sortedFrom_cons.1 h
    simp only [Memory.write]
    split
    · exact Memory.sortedFrom_cons.2 ⟨h1, h2, ih h3 (by omega)⟩
    · split
      · subst_vars; exact Memory.sortedFrom_entry_append hle h3
      · exact Memory.sortedFrom_entry_append hle (Memory.sortedFrom_cons.2 ⟨by omega, h2, h3⟩)

/-- A write keeps the canonical form. -/
theorem Memory.wf_write {m : Memory} {off : Nat} {v : Byte} (h : Memory.wf m = true) :
    Memory.wf (Memory.write m off v) = true :=
  Memory.sortedFrom_write h (Nat.zero_le _)

theorem Memory.sortedFrom_ofBytesFrom (bytes : List Byte) (off : Nat) :
    Memory.sortedFrom off (Memory.ofBytesFrom off bytes) = true := by
  induction bytes generalizing off with
  | nil => rfl
  | cons b rest ih => exact Memory.sortedFrom_entry_append (Nat.le_refl _) (ih _)

/-- A loaded array is in canonical form. -/
theorem Memory.wf_ofBytes (bytes : List Byte) : Memory.wf (Memory.ofBytes bytes) = true :=
  Memory.sortedFrom_ofBytesFrom bytes 0

theorem Memory.wf_nil : Memory.wf [] = true := rfl

/-! ### The size of the array -/

theorem Memory.within_nil (size : Nat) : Memory.within [] size = true := rfl

theorem Memory.within_cons {a size : Nat} {b : Byte} {rest : Memory} :
    Memory.within ((a, b) :: rest) size = true ↔ a < size ∧ Memory.within rest size = true := by
  unfold Memory.within
  rw [List.all_cons, Bool.and_eq_true, decide_eq_true_eq]

theorem Memory.within_entry_append {m : Memory} {off size : Nat} {v : Byte} (h : off < size)
    (hm : Memory.within m size = true) : Memory.within (Memory.entry off v ++ m) size = true := by
  unfold Memory.entry
  split
  · exact hm
  · exact Memory.within_cons.2 ⟨h, hm⟩

/-- A write inside the array lists no offset beyond its size. -/
theorem Memory.within_write {m : Memory} {off size : Nat} {v : Byte} (h : off < size)
    (hm : Memory.within m size = true) : Memory.within (Memory.write m off v) size = true := by
  induction m with
  | nil => simpa [Memory.write] using Memory.within_entry_append (v := v) h (Memory.within_nil size)
  | cons c rest ih =>
    obtain ⟨a, b⟩ := c
    obtain ⟨ha, hrest⟩ := Memory.within_cons.1 hm
    simp only [Memory.write]
    split
    · exact Memory.within_cons.2 ⟨ha, ih hrest⟩
    · split
      · exact Memory.within_entry_append h hrest
      · exact Memory.within_entry_append h hm

theorem Memory.within_ofBytesFrom (bytes : List Byte) (off size : Nat)
    (h : off + bytes.length ≤ size) :
    Memory.within (Memory.ofBytesFrom off bytes) size = true := by
  induction bytes generalizing off with
  | nil => rfl
  | cons b rest ih =>
    simp only [List.length_cons] at h
    exact Memory.within_entry_append (by omega) (ih _ (by omega))

/-- A loaded array lists no offset beyond its length. -/
theorem Memory.within_ofBytes {bytes : List Byte} {size : Nat} (h : bytes.length ≤ size) :
    Memory.within (Memory.ofBytes bytes) size = true :=
  Memory.within_ofBytesFrom bytes 0 size (by omega)

/-! ### Reading -/

/-- Below every listed offset an array reads as 0. -/
theorem Memory.read_below {m : Memory} {low off : Nat} (h : Memory.sortedFrom low m = true)
    (hlt : off < low) : Memory.read m off = 0 := by
  induction m generalizing low with
  | nil => rfl
  | cons c rest ih =>
    obtain ⟨a, b⟩ := c
    obtain ⟨h1, -, h3⟩ := Memory.sortedFrom_cons.1 h
    have hne : a ≠ off := by omega
    simpa [Memory.read, hne] using ih h3 (by omega)

theorem Memory.read_entry_append {m : Memory} {off a : Nat} {v : Byte}
    (h : Memory.read m off = 0) :
    Memory.read (Memory.entry off v ++ m) a = if a = off then v else Memory.read m a := by
  unfold Memory.entry
  by_cases hv : v = 0 <;> by_cases ha : a = off
  · simp_all
  · simp_all
  · simp_all [Memory.read]
  · have : off ≠ a := fun e => ha e.symm
    simp_all [Memory.read]

theorem Memory.read_write_from {m : Memory} {low off a : Nat} {v : Byte}
    (h : Memory.sortedFrom low m = true) :
    Memory.read (Memory.write m off v) a = if a = off then v else Memory.read m a := by
  induction m generalizing low with
  | nil =>
    have := Memory.read_entry_append (m := []) (off := off) (a := a) (v := v) rfl
    simpa [Memory.write] using this
  | cons c rest ih =>
    obtain ⟨x, b⟩ := c
    obtain ⟨-, -, h3⟩ := Memory.sortedFrom_cons.1 h
    simp only [Memory.write]
    split
    · simp only [Memory.read, ih h3]
      by_cases hx : x = a
      · have : a ≠ off := by omega
        simp [hx, this]
      · simp [hx]
    · split
      · subst x
        rw [Memory.read_entry_append (Memory.read_below h3 (Nat.lt_succ_self _))]
        by_cases ha : a = off
        · simp [ha]
        · have : off ≠ a := fun e => ha e.symm
          simp [ha, Memory.read, this]
      · rw [Memory.read_entry_append]
        have hne : x ≠ off := by assumption
        simpa [Memory.read, hne] using Memory.read_below h3 (by omega)

/-- Read after write: the written offset gives the byte, every other offset what it gave before. -/
theorem Memory.read_write {m : Memory} {off a : Nat} {v : Byte} (h : Memory.wf m = true) :
    Memory.read (Memory.write m off v) a = if a = off then v else Memory.read m a :=
  Memory.read_write_from h

/-- A loaded array reads as its bytes. -/
theorem Memory.read_ofBytesFrom (bytes : List Byte) (off i : Nat) :
    Memory.read (Memory.ofBytesFrom off bytes) (off + i) = bytes.getD i 0 := by
  induction bytes generalizing off i with
  | nil => simp [Memory.ofBytesFrom, Memory.read]
  | cons b rest ih =>
    have hbelow : Memory.read (Memory.ofBytesFrom (off + 1) rest) off = 0 :=
      Memory.read_below (Memory.sortedFrom_ofBytesFrom rest (off + 1)) (Nat.lt_succ_self _)
    simp only [Memory.ofBytesFrom]
    rw [Memory.read_entry_append hbelow]
    cases i with
    | zero => simp
    | succ i =>
      have hne : off + (i + 1) ≠ off := by omega
      have := ih (off + 1) i
      rw [if_neg hne, show off + (i + 1) = off + 1 + i by omega, this]
      simp

/-- A loaded array reads as its bytes. -/
theorem Memory.read_ofBytes (bytes : List Byte) (i : Nat) :
    Memory.read (Memory.ofBytes bytes) i = bytes.getD i 0 := by
  have := Memory.read_ofBytesFrom bytes 0 i
  rwa [Nat.zero_add] at this

end Sys2Proof.Machine
end

