-- ==== Sys2Proof/Laws/State.lean ====
section
/-! SUPPORT. One lemma per field per update of State, each true by definition, so that no proof unfolds
a record update. -/

namespace Sys2Proof.Machine

@[simp] theorem State.setMap_cfg (s : State) (v : MapState) : (s.setMap v).cfg = s.cfg := rfl
@[simp] theorem State.setMap_map (s : State) (v : MapState) : (s.setMap v).map = v := rfl
@[simp] theorem State.setMap_prg (s : State) (v : MapState) : (s.setMap v).prg = s.prg := rfl
@[simp] theorem State.setMap_chr (s : State) (v : MapState) : (s.setMap v).chr = s.chr := rfl
@[simp] theorem State.setMap_sram (s : State) (v : MapState) : (s.setMap v).sram = s.sram := rfl
@[simp] theorem State.setMap_apu (s : State) (v : MapState) : (s.setMap v).apu = s.apu := rfl
@[simp] theorem State.setMap_inbox (s : State) (v : MapState) : (s.setMap v).inbox = s.inbox := rfl
@[simp] theorem State.setMap_side (s : State) (v : MapState) : (s.setMap v).side = s.side := rfl
@[simp] theorem State.setMap_out (s : State) (v : MapState) : (s.setMap v).out = s.out := rfl
@[simp] theorem State.setMap_pending (s : State) (v : MapState) : (s.setMap v).pending = s.pending := rfl
@[simp] theorem State.setMap_self (s : State) : s.setMap s.map = s := rfl
@[simp] theorem State.setMap_setMap (s : State) (v w : MapState) : (s.setMap v).setMap w = s.setMap w := rfl

@[simp] theorem State.setPrg_cfg (s : State) (v : Memory) : (s.setPrg v).cfg = s.cfg := rfl
@[simp] theorem State.setPrg_map (s : State) (v : Memory) : (s.setPrg v).map = s.map := rfl
@[simp] theorem State.setPrg_prg (s : State) (v : Memory) : (s.setPrg v).prg = v := rfl
@[simp] theorem State.setPrg_chr (s : State) (v : Memory) : (s.setPrg v).chr = s.chr := rfl
@[simp] theorem State.setPrg_sram (s : State) (v : Memory) : (s.setPrg v).sram = s.sram := rfl
@[simp] theorem State.setPrg_apu (s : State) (v : Memory) : (s.setPrg v).apu = s.apu := rfl
@[simp] theorem State.setPrg_inbox (s : State) (v : Memory) : (s.setPrg v).inbox = s.inbox := rfl
@[simp] theorem State.setPrg_side (s : State) (v : Memory) : (s.setPrg v).side = s.side := rfl
@[simp] theorem State.setPrg_out (s : State) (v : Memory) : (s.setPrg v).out = s.out := rfl
@[simp] theorem State.setPrg_pending (s : State) (v : Memory) : (s.setPrg v).pending = s.pending := rfl
@[simp] theorem State.setPrg_setPrg (s : State) (v w : Memory) : (s.setPrg v).setPrg w = s.setPrg w := rfl

@[simp] theorem State.setChr_cfg (s : State) (v : Memory) : (s.setChr v).cfg = s.cfg := rfl
@[simp] theorem State.setChr_map (s : State) (v : Memory) : (s.setChr v).map = s.map := rfl
@[simp] theorem State.setChr_prg (s : State) (v : Memory) : (s.setChr v).prg = s.prg := rfl
@[simp] theorem State.setChr_chr (s : State) (v : Memory) : (s.setChr v).chr = v := rfl
@[simp] theorem State.setChr_sram (s : State) (v : Memory) : (s.setChr v).sram = s.sram := rfl
@[simp] theorem State.setChr_apu (s : State) (v : Memory) : (s.setChr v).apu = s.apu := rfl
@[simp] theorem State.setChr_inbox (s : State) (v : Memory) : (s.setChr v).inbox = s.inbox := rfl
@[simp] theorem State.setChr_side (s : State) (v : Memory) : (s.setChr v).side = s.side := rfl
@[simp] theorem State.setChr_out (s : State) (v : Memory) : (s.setChr v).out = s.out := rfl
@[simp] theorem State.setChr_pending (s : State) (v : Memory) : (s.setChr v).pending = s.pending := rfl
@[simp] theorem State.setChr_setChr (s : State) (v w : Memory) : (s.setChr v).setChr w = s.setChr w := rfl

@[simp] theorem State.setSram_cfg (s : State) (v : Memory) : (s.setSram v).cfg = s.cfg := rfl
@[simp] theorem State.setSram_map (s : State) (v : Memory) : (s.setSram v).map = s.map := rfl
@[simp] theorem State.setSram_prg (s : State) (v : Memory) : (s.setSram v).prg = s.prg := rfl
@[simp] theorem State.setSram_chr (s : State) (v : Memory) : (s.setSram v).chr = s.chr := rfl
@[simp] theorem State.setSram_sram (s : State) (v : Memory) : (s.setSram v).sram = v := rfl
@[simp] theorem State.setSram_apu (s : State) (v : Memory) : (s.setSram v).apu = s.apu := rfl
@[simp] theorem State.setSram_inbox (s : State) (v : Memory) : (s.setSram v).inbox = s.inbox := rfl
@[simp] theorem State.setSram_side (s : State) (v : Memory) : (s.setSram v).side = s.side := rfl
@[simp] theorem State.setSram_out (s : State) (v : Memory) : (s.setSram v).out = s.out := rfl
@[simp] theorem State.setSram_pending (s : State) (v : Memory) : (s.setSram v).pending = s.pending := rfl
@[simp] theorem State.setSram_setSram (s : State) (v w : Memory) : (s.setSram v).setSram w = s.setSram w := rfl

@[simp] theorem State.setApu_cfg (s : State) (v : ApuState) : (s.setApu v).cfg = s.cfg := rfl
@[simp] theorem State.setApu_map (s : State) (v : ApuState) : (s.setApu v).map = s.map := rfl
@[simp] theorem State.setApu_prg (s : State) (v : ApuState) : (s.setApu v).prg = s.prg := rfl
@[simp] theorem State.setApu_chr (s : State) (v : ApuState) : (s.setApu v).chr = s.chr := rfl
@[simp] theorem State.setApu_sram (s : State) (v : ApuState) : (s.setApu v).sram = s.sram := rfl
@[simp] theorem State.setApu_apu (s : State) (v : ApuState) : (s.setApu v).apu = v := rfl
@[simp] theorem State.setApu_inbox (s : State) (v : ApuState) : (s.setApu v).inbox = s.inbox := rfl
@[simp] theorem State.setApu_side (s : State) (v : ApuState) : (s.setApu v).side = s.side := rfl
@[simp] theorem State.setApu_out (s : State) (v : ApuState) : (s.setApu v).out = s.out := rfl
@[simp] theorem State.setApu_pending (s : State) (v : ApuState) : (s.setApu v).pending = s.pending := rfl
@[simp] theorem State.setApu_self (s : State) : s.setApu s.apu = s := rfl
@[simp] theorem State.setApu_setApu (s : State) (v w : ApuState) : (s.setApu v).setApu w = s.setApu w := rfl

@[simp] theorem State.setInbox_cfg (s : State) (v : SweepInbox) : (s.setInbox v).cfg = s.cfg := rfl
@[simp] theorem State.setInbox_map (s : State) (v : SweepInbox) : (s.setInbox v).map = s.map := rfl
@[simp] theorem State.setInbox_prg (s : State) (v : SweepInbox) : (s.setInbox v).prg = s.prg := rfl
@[simp] theorem State.setInbox_chr (s : State) (v : SweepInbox) : (s.setInbox v).chr = s.chr := rfl
@[simp] theorem State.setInbox_sram (s : State) (v : SweepInbox) : (s.setInbox v).sram = s.sram := rfl
@[simp] theorem State.setInbox_apu (s : State) (v : SweepInbox) : (s.setInbox v).apu = s.apu := rfl
@[simp] theorem State.setInbox_side (s : State) (v : SweepInbox) : (s.setInbox v).side = s.side := rfl
@[simp] theorem State.setInbox_out (s : State) (v : SweepInbox) : (s.setInbox v).out = s.out := rfl
@[simp] theorem State.setInbox_pending (s : State) (v : SweepInbox) : (s.setInbox v).pending = s.pending := rfl
@[simp] theorem State.setInbox_inbox (s : State) (v : SweepInbox) : (s.setInbox v).inbox = v := rfl
@[simp] theorem State.setInbox_self (s : State) : s.setInbox s.inbox = s := rfl
@[simp] theorem State.setInbox_setInbox (s : State) (v w : SweepInbox) : (s.setInbox v).setInbox w = s.setInbox w := rfl

@[simp] theorem State.setSide_cfg (s : State) (v : Side) : (s.setSide v).cfg = s.cfg := rfl
@[simp] theorem State.setSide_map (s : State) (v : Side) : (s.setSide v).map = s.map := rfl
@[simp] theorem State.setSide_prg (s : State) (v : Side) : (s.setSide v).prg = s.prg := rfl
@[simp] theorem State.setSide_chr (s : State) (v : Side) : (s.setSide v).chr = s.chr := rfl
@[simp] theorem State.setSide_sram (s : State) (v : Side) : (s.setSide v).sram = s.sram := rfl
@[simp] theorem State.setSide_apu (s : State) (v : Side) : (s.setSide v).apu = s.apu := rfl
@[simp] theorem State.setSide_inbox (s : State) (v : Side) : (s.setSide v).inbox = s.inbox := rfl
@[simp] theorem State.setSide_side (s : State) (v : Side) : (s.setSide v).side = v := rfl
@[simp] theorem State.setSide_out (s : State) (v : Side) : (s.setSide v).out = s.out := rfl
@[simp] theorem State.setSide_pending (s : State) (v : Side) : (s.setSide v).pending = s.pending := rfl
@[simp] theorem State.setSide_self (s : State) : s.setSide s.side = s := rfl
@[simp] theorem State.setSide_setSide (s : State) (v w : Side) : (s.setSide v).setSide w = s.setSide w := rfl

@[simp] theorem State.setOut_cfg (s : State) (v : Outputs) : (s.setOut v).cfg = s.cfg := rfl
@[simp] theorem State.setOut_map (s : State) (v : Outputs) : (s.setOut v).map = s.map := rfl
@[simp] theorem State.setOut_prg (s : State) (v : Outputs) : (s.setOut v).prg = s.prg := rfl
@[simp] theorem State.setOut_chr (s : State) (v : Outputs) : (s.setOut v).chr = s.chr := rfl
@[simp] theorem State.setOut_sram (s : State) (v : Outputs) : (s.setOut v).sram = s.sram := rfl
@[simp] theorem State.setOut_apu (s : State) (v : Outputs) : (s.setOut v).apu = s.apu := rfl
@[simp] theorem State.setOut_inbox (s : State) (v : Outputs) : (s.setOut v).inbox = s.inbox := rfl
@[simp] theorem State.setOut_side (s : State) (v : Outputs) : (s.setOut v).side = s.side := rfl
@[simp] theorem State.setOut_out (s : State) (v : Outputs) : (s.setOut v).out = v := rfl
@[simp] theorem State.setOut_pending (s : State) (v : Outputs) : (s.setOut v).pending = s.pending := rfl
@[simp] theorem State.setOut_self (s : State) : s.setOut s.out = s := rfl
@[simp] theorem State.setOut_setOut (s : State) (v w : Outputs) : (s.setOut v).setOut w = s.setOut w := rfl

@[simp] theorem State.setPending_cfg (s : State) (v : List Transaction) : (s.setPending v).cfg = s.cfg := rfl
@[simp] theorem State.setPending_map (s : State) (v : List Transaction) : (s.setPending v).map = s.map := rfl
@[simp] theorem State.setPending_prg (s : State) (v : List Transaction) : (s.setPending v).prg = s.prg := rfl
@[simp] theorem State.setPending_chr (s : State) (v : List Transaction) : (s.setPending v).chr = s.chr := rfl
@[simp] theorem State.setPending_sram (s : State) (v : List Transaction) : (s.setPending v).sram = s.sram := rfl
@[simp] theorem State.setPending_apu (s : State) (v : List Transaction) : (s.setPending v).apu = s.apu := rfl
@[simp] theorem State.setPending_inbox (s : State) (v : List Transaction) : (s.setPending v).inbox = s.inbox := rfl
@[simp] theorem State.setPending_side (s : State) (v : List Transaction) : (s.setPending v).side = s.side := rfl
@[simp] theorem State.setPending_out (s : State) (v : List Transaction) : (s.setPending v).out = s.out := rfl
@[simp] theorem State.setPending_pending (s : State) (v : List Transaction) : (s.setPending v).pending = v := rfl
@[simp] theorem State.setPending_self (s : State) : s.setPending s.pending = s := rfl
@[simp] theorem State.setPending_setPending (s : State) (v w : List Transaction) : (s.setPending v).setPending w = s.setPending w := rfl

@[simp] theorem State.answer_cfg (s : State) (resp : Response) : (s.answer resp).cfg = s.cfg := rfl
@[simp] theorem State.answer_map (s : State) (resp : Response) : (s.answer resp).map = s.map := rfl
@[simp] theorem State.answer_prg (s : State) (resp : Response) : (s.answer resp).prg = s.prg := rfl
@[simp] theorem State.answer_chr (s : State) (resp : Response) : (s.answer resp).chr = s.chr := rfl
@[simp] theorem State.answer_sram (s : State) (resp : Response) : (s.answer resp).sram = s.sram := rfl
@[simp] theorem State.answer_apu (s : State) (resp : Response) : (s.answer resp).apu = s.apu := rfl
@[simp] theorem State.answer_inbox (s : State) (resp : Response) : (s.answer resp).inbox = s.inbox := rfl
@[simp] theorem State.answer_side (s : State) (resp : Response) : (s.answer resp).side = s.side := rfl
@[simp] theorem State.answer_out (s : State) (resp : Response) : (s.answer resp).out = Outputs.quiet resp := rfl
@[simp] theorem State.answer_pending (s : State) (resp : Response) : (s.answer resp).pending = s.pending := rfl

@[simp] theorem State.done_cfg (s : State) : (s.done).cfg = s.cfg := rfl
@[simp] theorem State.done_map (s : State) : (s.done).map = s.map := rfl
@[simp] theorem State.done_prg (s : State) : (s.done).prg = s.prg := rfl
@[simp] theorem State.done_chr (s : State) : (s.done).chr = s.chr := rfl
@[simp] theorem State.done_sram (s : State) : (s.done).sram = s.sram := rfl
@[simp] theorem State.done_apu (s : State) : (s.done).apu = s.apu := rfl
@[simp] theorem State.done_inbox (s : State) : (s.done).inbox = s.inbox := rfl
@[simp] theorem State.done_side (s : State) : (s.done).side = s.side := rfl
@[simp] theorem State.done_out (s : State) : (s.done).out = Outputs.quiet .none := rfl
@[simp] theorem State.done_pending (s : State) : (s.done).pending = s.pending := rfl

@[simp] theorem State.registerWritten_cfg (s : State) : (s.registerWritten).cfg = s.cfg := rfl
@[simp] theorem State.registerWritten_map (s : State) : (s.registerWritten).map = s.map := rfl
@[simp] theorem State.registerWritten_prg (s : State) : (s.registerWritten).prg = s.prg := rfl
@[simp] theorem State.registerWritten_chr (s : State) : (s.registerWritten).chr = s.chr := rfl
@[simp] theorem State.registerWritten_sram (s : State) : (s.registerWritten).sram = s.sram := rfl
@[simp] theorem State.registerWritten_apu (s : State) : (s.registerWritten).apu = s.apu := rfl
@[simp] theorem State.registerWritten_inbox (s : State) : (s.registerWritten).inbox = s.inbox := rfl
@[simp] theorem State.registerWritten_side (s : State) : (s.registerWritten).side = s.side := rfl
@[simp] theorem State.registerWritten_out (s : State) : (s.registerWritten).out = Outputs.quiet (.write .notClaimed) := rfl
@[simp] theorem State.registerWritten_pending (s : State) : (s.registerWritten).pending = s.pending := rfl

@[simp] theorem State.mapperId_setMap (s : State) (v : MapState) : (s.setMap v).mapperId = s.mapperId := rfl

@[simp] theorem State.setMap_toBlock (s : State) (v : MapState) :
    (s.setMap v).toBlock = { s.toBlock with map := v } := rfl
@[simp] theorem State.setApu_toBlock (s : State) (v : ApuState) :
    (s.setApu v).toBlock = { s.toBlock with apu := v } := rfl
@[simp] theorem State.setPrg_toBlock (s : State) (v : Memory) :
    (s.setPrg v).toBlock = { s.toBlock with prgState := some v } := rfl
@[simp] theorem State.setChr_toBlock (s : State) (v : Memory) :
    (s.setChr v).toBlock = { s.toBlock with chrState := some v } := rfl
@[simp] theorem State.setSram_toBlock (s : State) (v : Memory) :
    (s.setSram v).toBlock = { s.toBlock with sramState := some v } := rfl
@[simp] theorem State.setInbox_toBlock (s : State) (v : SweepInbox) :
    (s.setInbox v).toBlock = s.toBlock := rfl
@[simp] theorem State.setSide_toBlock (s : State) (v : Side) :
    (s.setSide v).toBlock = s.toBlock := rfl
@[simp] theorem State.setOut_toBlock (s : State) (v : Outputs) :
    (s.setOut v).toBlock = s.toBlock := rfl
@[simp] theorem State.setPending_toBlock (s : State) (v : List Transaction) :
    (s.setPending v).toBlock = s.toBlock := rfl
@[simp] theorem State.setMap_toEnvironment (s : State) (v : MapState) :
    (s.setMap v).toEnvironment = s.toEnvironment := rfl
@[simp] theorem State.setPrg_toEnvironment (s : State) (v : Memory) :
    (s.setPrg v).toEnvironment = s.toEnvironment := rfl
@[simp] theorem State.setChr_toEnvironment (s : State) (v : Memory) :
    (s.setChr v).toEnvironment = s.toEnvironment := rfl
@[simp] theorem State.setSram_toEnvironment (s : State) (v : Memory) :
    (s.setSram v).toEnvironment = s.toEnvironment := rfl
@[simp] theorem State.setApu_toEnvironment (s : State) (v : ApuState) :
    (s.setApu v).toEnvironment = s.toEnvironment := rfl
@[simp] theorem State.setInbox_toEnvironment (s : State) (v : SweepInbox) :
    (s.setInbox v).toEnvironment = { s.toEnvironment with inbox := v } := rfl
@[simp] theorem State.setSide_toEnvironment (s : State) (v : Side) :
    (s.setSide v).toEnvironment = { s.toEnvironment with side := v } := rfl
@[simp] theorem State.setOut_toEnvironment (s : State) (v : Outputs) :
    (s.setOut v).toEnvironment = { s.toEnvironment with out := v } := rfl
@[simp] theorem State.setPending_toEnvironment (s : State) (v : List Transaction) :
    (s.setPending v).toEnvironment = { s.toEnvironment with pending := v } := rfl
@[simp] theorem State.answer_toBlock (s : State) (resp : Response) : (s.answer resp).toBlock = s.toBlock := rfl
@[simp] theorem State.done_toBlock (s : State) : s.done.toBlock = s.toBlock := rfl
@[simp] theorem State.registerWritten_toBlock (s : State) : s.registerWritten.toBlock = s.toBlock := rfl

/-- Two states agree where their arrays are state and their configurations do: then the arrays are the
same. -/
theorem State.prg_congr {s t : State} (h : t.prgState = s.prgState) (hcfg : t.cfg = s.cfg) : t.prg = s.prg := by
  simp [State.prg, h, hcfg]
theorem State.chr_congr {s t : State} (h : t.chrState = s.chrState) (hcfg : t.cfg = s.cfg) : t.chr = s.chr := by
  simp [State.chr, h, hcfg]
theorem State.sram_congr {s t : State} (h : t.sramState = s.sramState) (hcfg : t.cfg = s.cfg) :
    t.sram = s.sram := by
  simp [State.sram, h, hcfg]

/-- Where PRG is no state its contents are those of the configuration (rule R20). -/
theorem State.prg_of_none {s : State} (h : s.prgState = none) : s.prg = s.cfg.prg := by simp [State.prg, h]

/-- Where CHR is no state its contents are those of the configuration (rule R20). -/
theorem State.chr_of_none {s : State} (h : s.chrState = none) : s.chr = s.cfg.chr := by simp [State.chr, h]

/-- A state is the list of its fields. -/
theorem State.ext_fields {s t : State} (hcfg : s.cfg = t.cfg) (hmap : s.map = t.map)
    (hprg : s.prgState = t.prgState) (hchr : s.chrState = t.chrState) (hsram : s.sramState = t.sramState)
    (hapu : s.apu = t.apu) (hinbox : s.inbox = t.inbox) (hside : s.side = t.side) (hout : s.out = t.out)
    (hpending : s.pending = t.pending) : s = t := by
  obtain ⟨⟨⟩, ⟨⟩, _⟩ := s; obtain ⟨⟨⟩, ⟨⟩, _⟩ := t; simp_all

end Sys2Proof.Machine
end

