-- ==== Sys2Proof/Laws/Ops.lean ====
section
/-! SUPPORT. What each shared operation can do, said once; the provers cite these instead of unfolding
the operations. -/

namespace Sys2Proof.Machine

/-! ### Addresses and offsets -/

/-- The low bits of an address are its remainder. -/
theorem lowBits_eq_mod {w n : Nat} (a : BitVec w) : lowBits n a = a.toNat % 2 ^ n := by
  simp [lowBits]

theorem lowBits_lt {w n : Nat} (a : BitVec w) : lowBits n a < 2 ^ n := (a.extractLsb' 0 n).isLt

theorem prgSize_pos {c : Cfg} (h : 1 ≤ c.prgBanks) : 0 < c.prgSize := by
  unfold Params.prgSize; omega

theorem chrSize_pos (c : Cfg) : 0 < c.chrSize := by
  unfold Params.chrSize; omega

/-- A reduced PRG offset is inside the array (rule R163). -/
theorem wrapPrg_lt {c : Cfg} (h : 1 ≤ c.prgBanks) (raw : Nat) : wrapPrg c raw < c.prgSize :=
  Nat.mod_lt _ (prgSize_pos h)

/-- A reduced CHR offset is inside the array (rule R163). -/
theorem wrapChr_lt (c : Cfg) (raw : Nat) : wrapChr c raw < c.chrSize :=
  Nat.mod_lt _ (chrSize_pos c)

/-- A PPU write of mapper 0, 1 or 2 is claimed exactly when CHR is RAM, at its own address. -/
theorem chrRamResult_cases (c : Cfg) (within : BitVec 13) :
    (c.chrBanks = 0 ∧ chrRamResult c within = .offset .chr within.toNat) ∨
      (c.chrBanks ≠ 0 ∧ chrRamResult c within = .notClaimed) := by
  unfold chrRamResult
  split <;> simp_all

/-! ### Which mapper the block has -/

/-- An operation of mapper 0's table answers a next state exactly on a block with mapper 0. -/
theorem onM0_eq_next {s t t' : State} : onM0 s t' = .next t ↔ s.map = .m0 ∧ t' = t := by
  unfold onM0
  split <;> simp_all

theorem onM0_of_map {s : State} (h : s.map = .m0) (t : State) : onM0 s t = .next t := by
  simp [onM0, h]

/-- An operation of mapper 1's table answers a next state exactly on a block with mapper 1. -/
theorem onM1_eq_next {s t : State} {f : M1State → State} :
    onM1 s f = .next t ↔ ∃ r, s.map = .m1 r ∧ f r = t := by
  unfold onM1
  split <;> simp_all

theorem onM1_of_map {s : State} {r : M1State} (h : s.map = .m1 r) (f : M1State → State) :
    onM1 s f = .next (f r) := by
  simp [onM1, h]

/-- An operation of mapper 2's table answers a next state exactly on a block with mapper 2. -/
theorem onM2_eq_next {s t : State} {f : M2State → State} :
    onM2 s f = .next t ↔ ∃ r, s.map = .m2 r ∧ f r = t := by
  unfold onM2
  split <;> simp_all

theorem onM2_of_map {s : State} {r : M2State} (h : s.map = .m2 r) (f : M2State → State) :
    onM2 s f = .next (f r) := by
  simp [onM2, h]

/-- An operation of mapper 3's table answers a next state exactly on a block with mapper 3. -/
theorem onM3_eq_next {s t : State} {f : M3State → State} :
    onM3 s f = .next t ↔ ∃ r, s.map = .m3 r ∧ f r = t := by
  unfold onM3
  split <;> simp_all

theorem onM3_of_map {s : State} {r : M3State} (h : s.map = .m3 r) (f : M3State → State) :
    onM3 s f = .next (f r) := by
  simp [onM3, h]

/-- An operation of mapper 4's table answers a next state exactly on a block with mapper 4. -/
theorem onM4_eq_next {s t : State} {f : M4State → State} :
    onM4 s f = .next t ↔ ∃ r, s.map = .m4 r ∧ f r = t := by
  unfold onM4
  split <;> simp_all

theorem onM4_of_map {s : State} {r : M4State} (h : s.map = .m4 r) (f : M4State → State) :
    onM4 s f = .next (f r) := by
  simp [onM4, h]

/-- An operation of mapper 9's table answers a next state exactly on a block with mapper 9. -/
theorem onM9_eq_next {s t : State} {f : M9State → State} :
    onM9 s f = .next t ↔ ∃ r, s.map = .m9 r ∧ f r = t := by
  unfold onM9
  split <;> simp_all

theorem onM9_of_map {s : State} {r : M9State} (h : s.map = .m9 r) (f : M9State → State) :
    onM9 s f = .next (f r) := by
  simp [onM9, h]

/-! ### The cartridge -/

@[simp] theorem State.finishRead_cfg (s : State) (r : MapResult) : (s.finishRead r).cfg = s.cfg := rfl
@[simp] theorem State.finishRead_map (s : State) (r : MapResult) : (s.finishRead r).map = s.map := rfl
@[simp] theorem State.finishRead_prg (s : State) (r : MapResult) : (s.finishRead r).prg = s.prg := rfl
@[simp] theorem State.finishRead_chr (s : State) (r : MapResult) : (s.finishRead r).chr = s.chr := rfl
@[simp] theorem State.finishRead_sram (s : State) (r : MapResult) : (s.finishRead r).sram = s.sram := rfl
@[simp] theorem State.finishRead_apu (s : State) (r : MapResult) : (s.finishRead r).apu = s.apu := rfl
@[simp] theorem State.finishRead_inbox (s : State) (r : MapResult) : (s.finishRead r).inbox = s.inbox := rfl
@[simp] theorem State.finishRead_side (s : State) (r : MapResult) : (s.finishRead r).side = s.side := rfl
@[simp] theorem State.finishRead_pending (s : State) (r : MapResult) : (s.finishRead r).pending = s.pending := rfl
@[simp] theorem State.finishRead_out (s : State) (r : MapResult) :
    (s.finishRead r).out = Outputs.quiet (.read r (s.byteAt r)) := rfl

@[simp] theorem State.finishRead_toBlock (s : State) (r : MapResult) : (s.finishRead r).toBlock = s.toBlock := rfl

@[simp] theorem State.finishCpuWrite_cfg (s : State) (r : MapResult) (v : Byte) :
    (s.finishCpuWrite r v).cfg = s.cfg := by
  unfold State.finishCpuWrite
  split
  · split <;> rfl
  · rfl
  · rfl

@[simp] theorem State.finishCpuWrite_map (s : State) (r : MapResult) (v : Byte) :
    (s.finishCpuWrite r v).map = s.map := by
  unfold State.finishCpuWrite
  split
  · split <;> rfl
  · rfl
  · rfl

@[simp] theorem State.finishCpuWrite_chr (s : State) (r : MapResult) (v : Byte) :
    (s.finishCpuWrite r v).chr = s.chr := by
  unfold State.finishCpuWrite
  split
  · split <;> rfl
  · rfl
  · rfl

@[simp] theorem State.finishCpuWrite_sram (s : State) (r : MapResult) (v : Byte) :
    (s.finishCpuWrite r v).sram = s.sram := by
  unfold State.finishCpuWrite
  split
  · split <;> rfl
  · rfl
  · rfl

@[simp] theorem State.finishCpuWrite_apu (s : State) (r : MapResult) (v : Byte) :
    (s.finishCpuWrite r v).apu = s.apu := by
  unfold State.finishCpuWrite
  split
  · split <;> rfl
  · rfl
  · rfl

@[simp] theorem State.finishCpuWrite_inbox (s : State) (r : MapResult) (v : Byte) :
    (s.finishCpuWrite r v).inbox = s.inbox := by
  unfold State.finishCpuWrite
  split
  · split <;> rfl
  · rfl
  · rfl

@[simp] theorem State.finishCpuWrite_side (s : State) (r : MapResult) (v : Byte) :
    (s.finishCpuWrite r v).side = s.side := by
  unfold State.finishCpuWrite
  split
  · split <;> rfl
  · rfl
  · rfl

@[simp] theorem State.finishCpuWrite_pending (s : State) (r : MapResult) (v : Byte) :
    (s.finishCpuWrite r v).pending = s.pending := by
  unfold State.finishCpuWrite
  split
  · split <;> rfl
  · rfl
  · rfl

/-- PRG after a CPU write: written only at a claimed PRG offset and only when `PRG_WRITABLE` (rule
R162). -/
theorem State.finishCpuWrite_prg (s : State) (r : MapResult) (v : Byte) :
    (s.finishCpuWrite r v).prg = s.prg ∨
      ∃ off, r = .offset .prg off ∧ s.cfg.prgWritable = true ∧
        (s.finishCpuWrite r v).prg = Memory.write s.prg off v := by
  unfold State.finishCpuWrite
  split
  · split
    · exact .inr ⟨_, rfl, by assumption, rfl⟩
    · exact .inl rfl
  · exact .inl rfl
  · exact .inl rfl

/-- The block after a CPU write: PRG is written only at a claimed PRG offset and only when `PRG_WRITABLE`, and
nothing else of the block changes (rule R162). -/
theorem State.finishCpuWrite_toBlock (s : State) (r : MapResult) (v : Byte) :
    (s.finishCpuWrite r v).toBlock = s.toBlock ∨
      ∃ off, r = .offset .prg off ∧ s.cfg.prgWritable = true ∧
        (s.finishCpuWrite r v).toBlock =
          { s.toBlock with prgState := some (Memory.write s.prg off v) } := by
  unfold State.finishCpuWrite
  split
  · split
    · exact .inr ⟨_, rfl, by assumption, rfl⟩
    · exact .inl rfl
  · exact .inl rfl
  · exact .inl rfl

/-- The response of a CPU write is the mapper's result. -/
theorem State.finishCpuWrite_resp (s : State) (r : MapResult) (v : Byte) :
    (s.finishCpuWrite r v).out.resp = .write r := by
  unfold State.finishCpuWrite
  split
  · split <;> rfl
  · rfl
  · rfl

@[simp] theorem State.finishPpuWrite_cfg (s : State) (r : MapResult) (v : Byte) :
    (s.finishPpuWrite r v).cfg = s.cfg := by
  unfold State.finishPpuWrite
  split <;> rfl

@[simp] theorem State.finishPpuWrite_map (s : State) (r : MapResult) (v : Byte) :
    (s.finishPpuWrite r v).map = s.map := by
  unfold State.finishPpuWrite
  split <;> rfl

@[simp] theorem State.finishPpuWrite_prg (s : State) (r : MapResult) (v : Byte) :
    (s.finishPpuWrite r v).prg = s.prg := by
  unfold State.finishPpuWrite
  split <;> rfl

@[simp] theorem State.finishPpuWrite_sram (s : State) (r : MapResult) (v : Byte) :
    (s.finishPpuWrite r v).sram = s.sram := by
  unfold State.finishPpuWrite
  split <;> rfl

@[simp] theorem State.finishPpuWrite_apu (s : State) (r : MapResult) (v : Byte) :
    (s.finishPpuWrite r v).apu = s.apu := by
  unfold State.finishPpuWrite
  split <;> rfl

@[simp] theorem State.finishPpuWrite_inbox (s : State) (r : MapResult) (v : Byte) :
    (s.finishPpuWrite r v).inbox = s.inbox := by
  unfold State.finishPpuWrite
  split <;> rfl

@[simp] theorem State.finishPpuWrite_side (s : State) (r : MapResult) (v : Byte) :
    (s.finishPpuWrite r v).side = s.side := by
  unfold State.finishPpuWrite
  split <;> rfl

@[simp] theorem State.finishPpuWrite_pending (s : State) (r : MapResult) (v : Byte) :
    (s.finishPpuWrite r v).pending = s.pending := by
  unfold State.finishPpuWrite
  split <;> rfl

@[simp] theorem State.finishPpuWrite_out (s : State) (r : MapResult) (v : Byte) :
    (s.finishPpuWrite r v).out = Outputs.quiet (.write r) := by
  unfold State.finishPpuWrite
  split <;> rfl

/-- CHR after a PPU write: written only at a claimed CHR offset (rule R165). -/
theorem State.finishPpuWrite_chr (s : State) (r : MapResult) (v : Byte) :
    (s.finishPpuWrite r v).chr = s.chr ∨
      ∃ off, r = .offset .chr off ∧ (s.finishPpuWrite r v).chr = Memory.write s.chr off v := by
  unfold State.finishPpuWrite
  split
  · exact .inr ⟨_, rfl, rfl⟩
  · exact .inl rfl

/-- The block after a PPU write: CHR is written only at a claimed CHR offset, and nothing else of the block
changes (rule R165). -/
theorem State.finishPpuWrite_toBlock (s : State) (r : MapResult) (v : Byte) :
    (s.finishPpuWrite r v).toBlock = s.toBlock ∨
      ∃ off, r = .offset .chr off ∧
        (s.finishPpuWrite r v).toBlock =
          { s.toBlock with chrState := some (Memory.write s.chr off v) } := by
  unfold State.finishPpuWrite
  split
  · exact .inr ⟨_, rfl, rfl⟩
  · exact .inl rfl

/-- A read of static RAM changes the outputs alone (rules R193, R232). -/
theorem State.sramRead_eq (s : State) (index : BitVec 13) :
    s.sramRead index =
      s.setOut (Outputs.quiet
        (.read (.internalRead (Memory.read s.sram index.toNat))
          (some (Memory.read s.sram index.toNat)))) := rfl

/-- A write of static RAM changes one byte of it and the outputs, and raises `RamWritten` (rules R194,
R233, R162). -/
theorem State.sramWrite_eq (s : State) (index : BitVec 13) (v : Byte) :
    s.sramWrite index v =
      (s.setSram (Memory.write s.sram index.toNat v)).setOut
        { Outputs.quiet (.write .internalWrite) with ramWritten := true } := rfl

@[simp] theorem State.sramRead_toBlock (s : State) (index : BitVec 13) :
    (s.sramRead index).toBlock = s.toBlock := rfl
@[simp] theorem State.sramWrite_toBlock (s : State) (index : BitVec 13) (v : Byte) :
    (s.sramWrite index v).toBlock =
      { s.toBlock with sramState := some (Memory.write s.sram index.toNat v) } := rfl

/-! ### Register writes -/

/-- A register write of mapper 4 changes the registers and the outputs alone. -/
theorem m4Register_of_map {s : State} {r : M4State} (h : s.map = .m4 r) (f : M4State → M4State) :
    m4Register s f = .next (s.setMap (.m4 (f r))).registerWritten := onM4_of_map h _

/-- A register write of mapper 9 changes the registers and the outputs alone. -/
theorem m9Register_of_map {s : State} {r : M9State} (h : s.map = .m9 r) (f : M9State → M9State) :
    m9Register s f = .next (s.setMap (.m9 (f r))).registerWritten := onM9_of_map h _

/-- An APU register write changes the APU state and the outputs alone, on every block. -/
theorem apuRegister_eq (s : State) (f : ApuState → ApuState) :
    apuRegister s f = .next (s.setApu (f s.apu)).registerWritten := rfl

/-! ### The loader of mapper 1 -/

/-- A gated write: `last_step` is remembered, and the write happens if it is accepted (rule R197). -/
theorem M1State.gated_cases (r : M1State) (g : Mmc1Gate) (step : Nat) (write : M1State → M1State) :
    (gateAccepts g r.lastStep step = true ∧
        r.gated g step write = { write r with lastStep := step }) ∨
      (gateAccepts g r.lastStep step = false ∧ r.gated g step write = { r with lastStep := step }) := by
  unfold M1State.gated
  split <;> simp_all

/-- A shift counts on below the fifth bit and empties the loader at it (rule R195). -/
theorem M1State.shift_cnt (r : M1State) (bit : BitVec 1) (target : BitVec 2) :
    (r.shift bit target).cnt = if r.cnt = 4 then 0 else r.cnt + 1 := by
  unfold M1State.shift
  split <;> rfl

/-! ### The latches of mapper 9 -/

/-- A PPU read moves a latch and no other register (rule R268). -/
theorem M9State.moveLatch_frame (r : M9State) (within : BitVec 13) :
    r.moveLatch within =
      { r with latch0 := (r.moveLatch within).latch0, latch1 := (r.moveLatch within).latch1 } := by
  unfold M9State.moveLatch
  dsimp only
  split_ifs <;> rfl

/-! ### The frame events -/

/-- A length counter never grows at a half-frame clock (rule R123). -/
theorem lenClock_le (counter : Byte) (enable halt : Bool) :
    (lenClock counter enable halt).toNat ≤ counter.toNat := by
  unfold lenClock
  split
  · simp
  · split
    · rename_i h
      have h1 : counter ≠ 0#8 := h.1
      show (counter - 1#8).toNat ≤ counter.toNat
      bv_omega
    · exact Nat.le_refl _

/-! ### What is state under a configuration -/

/-- The block's state has the shape its configuration gives it (rule R20). -/
theorem shapeLegal_iff {c : Cfg} {b : Block} :
    shapeLegal c b = true ↔ b.map.id = c.mapperId ∧ b.sramState.isSome = c.mapperId.ownsSram ∧
      b.chrState.isSome = (c.chrBanks == 0) ∧ b.prgState.isSome = c.prgWritable := by
  simp only [shapeLegal, Bool.and_eq_true, beq_iff_eq, and_assoc]

/-- Construction gives the state the shape of its configuration (rules R20, R302). -/
theorem shapeLegal_reset (c : Cfg) : shapeLegal c (Block.reset c) = true := by
  refine shapeLegal_iff.mpr ⟨?_, ?_, ?_, ?_⟩
  · cases h : c.mapperId <;> simp [Block.reset, MapState.reset, MapState.id, h]
  · cases h : c.mapperId.ownsSram <;> simp [Block.reset, sramAtReset, h]
  · by_cases h : c.chrBanks = 0 <;> simp [Block.reset, chrAtReset, h]
  · cases h : c.prgWritable <;> simp [Block.reset, prgAtReset, h]

/-! ### The step under a configuration -/

@[simp] theorem Block.under_toBlock (b : Block) (e : Environment) (c : Cfg) : (b.under e c).toBlock = b := rfl
@[simp] theorem Block.under_toEnvironment (b : Block) (e : Environment) (c : Cfg) :
    (b.under e c).toEnvironment = e := rfl
@[simp] theorem Block.under_cfg (b : Block) (e : Environment) (c : Cfg) : (b.under e c).cfg = c := rfl
@[simp] theorem State.toBlock_under (s : State) : s.toBlock.under s.toEnvironment s.cfg = s := rfl

/-- Taking the configuration off an answer and putting the same one back changes nothing. -/
theorem underCfg_onBlock {c : Cfg} {r : Result} (h : ∀ t, r = .next t → t.cfg = c) :
    underCfg c (onBlock r) = r := by
  cases r with
  | next t => rw [← h t rfl]; rfl
  | fault f => rfl
  | refused f => rfl

/-- What `underCfg` answers is a block's answer with the configuration beside it. -/
theorem underCfg_eq_next {c : Cfg} {r : BlockResult} {t : State} :
    underCfg c r = .next t ↔ t.cfg = c ∧ r = .next (t.toBlock, t.toEnvironment) := by
  cases r with
  | next b =>
    simp only [underCfg, Host.Outcome.next.injEq]
    exact ⟨fun h => h ▸ ⟨rfl, rfl⟩, fun h => by rw [← h.1, h.2]; rfl⟩
  | fault f => simp [underCfg]
  | refused f => simp [underCfg]

/-- With no operation issued a step leaves the state (rule R292). -/
theorem step_of_idle {s : State} (h : s.pending = []) : step s = .next s := by
  unfold step blockStep
  rw [h]
  rfl

/-- A step with an operation issued, where what is performed keeps the configuration. -/
theorem step_of_pending {s : State} {t : Transaction} {rest : List Transaction}
    (h : s.pending = t :: rest)
    (hcfg : ∀ u, (s.begin t rest).perform t.word = .next u → u.cfg = s.cfg) :
    step s = (s.begin t rest).perform t.word := by
  unfold step blockStep
  rw [h]
  exact underCfg_onBlock hcfg

/-! ### An operation begins, and the sweep `mute` flags -/

@[simp] theorem State.begin_cfg (s : State) (t : Transaction) (rest : List Transaction) :
    (s.begin t rest).cfg = s.cfg := rfl
@[simp] theorem State.begin_map (s : State) (t : Transaction) (rest : List Transaction) :
    (s.begin t rest).map = s.map := rfl
@[simp] theorem State.begin_prg (s : State) (t : Transaction) (rest : List Transaction) :
    (s.begin t rest).prg = s.prg := rfl
@[simp] theorem State.begin_chr (s : State) (t : Transaction) (rest : List Transaction) :
    (s.begin t rest).chr = s.chr := rfl
@[simp] theorem State.begin_sram (s : State) (t : Transaction) (rest : List Transaction) :
    (s.begin t rest).sram = s.sram := rfl
@[simp] theorem State.begin_apu (s : State) (t : Transaction) (rest : List Transaction) :
    (s.begin t rest).apu = s.apu := rfl
@[simp] theorem State.begin_inbox (s : State) (t : Transaction) (rest : List Transaction) :
    (s.begin t rest).inbox = s.inbox := rfl
@[simp] theorem State.begin_out (s : State) (t : Transaction) (rest : List Transaction) :
    (s.begin t rest).out = s.out := rfl
@[simp] theorem State.begin_side (s : State) (t : Transaction) (rest : List Transaction) :
    (s.begin t rest).side = t.side := rfl
@[simp] theorem State.begin_pending (s : State) (t : Transaction) (rest : List Transaction) :
    (s.begin t rest).pending = rest := rfl

@[simp] theorem State.begin_toBlock (s : State) (t : Transaction) (rest : List Transaction) :
    (s.begin t rest).toBlock = s.toBlock := rfl

theorem sweepMute_iff (target : Nat) : sweepMute target = true ↔ target < 8 ∨ 0x7FF < target := by
  simp [sweepMute]

/-- With no half-frame event in the last operation the timers hold what was presented beside it. -/
theorem State.timerReload_of_none {s : State} (h : s.out.reloads = none) (channel : PulseChannel) :
    s.timerReload channel = (match channel with | .p1 => s.side.reloadP1 | .p2 => s.side.reloadP2) := by
  cases channel <;> simp [State.timerReload, h]

/-- After a half-frame event the timers hold what the sweep units returned. -/
theorem State.timerReload_of_some {s : State} {reloads : Nat × Nat} (h : s.out.reloads = some reloads)
    (channel : PulseChannel) :
    s.timerReload channel = (match channel with | .p1 => reloads.1 | .p2 => reloads.2) := by
  cases channel <;> simp [State.timerReload, h]

@[simp] theorem sweepClock_mute (sweep : SweepState) (channel : PulseChannel) (bytes : List Byte)
    (reload : Nat) : (sweepClock sweep channel bytes reload).1.mute =
      sweepMute (sweepClock sweep channel bytes reload).2 := rfl

@[simp] theorem inboxAfter_of_half {count : Nat} (h : firesHalf count = true) (inbox : SweepInbox) :
    inboxAfter inbox count = SweepInbox.empty := if_pos h
@[simp] theorem inboxAfter_of_no_half {count : Nat} (h : firesHalf count = false) (inbox : SweepInbox) :
    inboxAfter inbox count = inbox := if_neg (by simp [h])


@[simp] theorem State.ticked_cfg (s : State) (emitted : Bool) :
    (s.ticked emitted).cfg = s.cfg := rfl
@[simp] theorem State.ticked_map (s : State) (emitted : Bool) :
    (s.ticked emitted).map = s.map := rfl
@[simp] theorem State.ticked_prg (s : State) (emitted : Bool) :
    (s.ticked emitted).prg = s.prg := rfl
@[simp] theorem State.ticked_chr (s : State) (emitted : Bool) :
    (s.ticked emitted).chr = s.chr := rfl
@[simp] theorem State.ticked_sram (s : State) (emitted : Bool) :
    (s.ticked emitted).sram = s.sram := rfl
@[simp] theorem State.ticked_side (s : State) (emitted : Bool) :
    (s.ticked emitted).side = s.side := rfl
@[simp] theorem State.ticked_pending (s : State) (emitted : Bool) :
    (s.ticked emitted).pending = s.pending := rfl
@[simp] theorem State.ticked_apu (s : State) (emitted : Bool) :
    (s.ticked emitted).apu = s.apu.apuTick s.inbox s.side := rfl
@[simp] theorem State.ticked_inbox (s : State) (emitted : Bool) :
    (s.ticked emitted).inbox = inboxAfter s.inbox (s.apu.fc + 1) := rfl
@[simp] theorem State.ticked_out (s : State) (emitted : Bool) :
    (s.ticked emitted).out = tickOutputs emitted s := rfl

@[simp] theorem State.countTick_cfg (s : State) : s.countTick.cfg = s.cfg := rfl
@[simp] theorem State.countTick_map (s : State) : s.countTick.map = s.map := rfl
@[simp] theorem State.countTick_prg (s : State) : s.countTick.prg = s.prg := rfl
@[simp] theorem State.countTick_chr (s : State) : s.countTick.chr = s.chr := rfl
@[simp] theorem State.countTick_sram (s : State) : s.countTick.sram = s.sram := rfl
@[simp] theorem State.countTick_inbox (s : State) : s.countTick.inbox = s.inbox := rfl
@[simp] theorem State.countTick_side (s : State) : s.countTick.side = s.side := rfl
@[simp] theorem State.countTick_out (s : State) : s.countTick.out = s.out := rfl
@[simp] theorem State.countTick_pending (s : State) : s.countTick.pending = s.pending := rfl
@[simp] theorem State.countTick_apu (s : State) :
    s.countTick.apu = { s.apu with tick := s.apu.tick + 1 } := rfl

/-! ### The sentinel -/

/-- No offset of an array is the sentinel (rules R6, R160). -/
theorem offset_ne_sentinel {c : Cfg} {off : Nat}
    (h : off < c.prgSize ∨ off < c.chrSize ∨ off < Cfg.sramSize) : off ≠ c.sentinel := by
  unfold Cfg.sentinel
  omega

/-! ### The mixer -/

/-- The exact output as the document writes it (rules R152, R153). -/
theorem mixExact_eq (k : MixConstants) (o : MixOperands) :
    mixExact k o =
      ((if o.p1 + o.p2 = 0 then 0 else k.pulseScale / (k.pulseNumerator / (o.p1 + o.p2) + k.base)) +
        (if o.t / k.triangleDivisor + o.n / k.noiseDivisor = 0 then 0
          else k.tndScale / (1 / (o.t / k.triangleDivisor + o.n / k.noiseDivisor) + k.base))) * k.gain := by
  simp [mixExact, mixIn, pulseOut, tndOut, exactNumerics]

@[simp] theorem ApuState.quarterFrame_tick (a : ApuState) : a.quarterFrame.tick = a.tick := rfl
@[simp] theorem ApuState.quarterFrame_fc (a : ApuState) : a.quarterFrame.fc = a.fc := rfl
@[simp] theorem ApuState.quarterFrame_lenP1 (a : ApuState) : a.quarterFrame.lenP1 = a.lenP1 := rfl
@[simp] theorem ApuState.quarterFrame_lenP2 (a : ApuState) : a.quarterFrame.lenP2 = a.lenP2 := rfl
@[simp] theorem ApuState.quarterFrame_lenT (a : ApuState) : a.quarterFrame.lenT = a.lenT := rfl
@[simp] theorem ApuState.quarterFrame_lenN (a : ApuState) : a.quarterFrame.lenN = a.lenN := rfl
@[simp] theorem ApuState.quarterFrame_haltP1 (a : ApuState) : a.quarterFrame.haltP1 = a.haltP1 := rfl
@[simp] theorem ApuState.quarterFrame_haltP2 (a : ApuState) : a.quarterFrame.haltP2 = a.haltP2 := rfl
@[simp] theorem ApuState.quarterFrame_haltN (a : ApuState) : a.quarterFrame.haltN = a.haltN := rfl
@[simp] theorem ApuState.quarterFrame_haltT (a : ApuState) : a.quarterFrame.haltT = a.haltT := rfl
@[simp] theorem ApuState.quarterFrame_enP1 (a : ApuState) : a.quarterFrame.enP1 = a.enP1 := rfl
@[simp] theorem ApuState.quarterFrame_enP2 (a : ApuState) : a.quarterFrame.enP2 = a.enP2 := rfl
@[simp] theorem ApuState.quarterFrame_enT (a : ApuState) : a.quarterFrame.enT = a.enT := rfl
@[simp] theorem ApuState.quarterFrame_enN (a : ApuState) : a.quarterFrame.enN = a.enN := rfl
@[simp] theorem ApuState.quarterFrame_enDmc (a : ApuState) : a.quarterFrame.enDmc = a.enDmc := rfl
@[simp] theorem ApuState.quarterFrame_linReload (a : ApuState) : a.quarterFrame.linReload = a.linReload := rfl
@[simp] theorem ApuState.quarterFrame_sweepP1 (a : ApuState) : a.quarterFrame.sweepP1 = a.sweepP1 := rfl
@[simp] theorem ApuState.quarterFrame_sweepP2 (a : ApuState) : a.quarterFrame.sweepP2 = a.sweepP2 := rfl
@[simp] theorem ApuState.quarterFrame_dmcReg (a : ApuState) : a.quarterFrame.dmcReg = a.dmcReg := rfl

@[simp] theorem ApuState.halfFrame_tick (a : ApuState) (inbox : SweepInbox) (side : Side) :
    (a.halfFrame inbox side).tick = a.tick := rfl
@[simp] theorem ApuState.halfFrame_fc (a : ApuState) (inbox : SweepInbox) (side : Side) :
    (a.halfFrame inbox side).fc = a.fc := rfl
@[simp] theorem ApuState.halfFrame_envP1 (a : ApuState) (inbox : SweepInbox) (side : Side) :
    (a.halfFrame inbox side).envP1 = a.envP1 := rfl
@[simp] theorem ApuState.halfFrame_envP2 (a : ApuState) (inbox : SweepInbox) (side : Side) :
    (a.halfFrame inbox side).envP2 = a.envP2 := rfl
@[simp] theorem ApuState.halfFrame_envN (a : ApuState) (inbox : SweepInbox) (side : Side) :
    (a.halfFrame inbox side).envN = a.envN := rfl
@[simp] theorem ApuState.halfFrame_haltP1 (a : ApuState) (inbox : SweepInbox) (side : Side) :
    (a.halfFrame inbox side).haltP1 = a.haltP1 := rfl
@[simp] theorem ApuState.halfFrame_haltP2 (a : ApuState) (inbox : SweepInbox) (side : Side) :
    (a.halfFrame inbox side).haltP2 = a.haltP2 := rfl
@[simp] theorem ApuState.halfFrame_haltN (a : ApuState) (inbox : SweepInbox) (side : Side) :
    (a.halfFrame inbox side).haltN = a.haltN := rfl
@[simp] theorem ApuState.halfFrame_haltT (a : ApuState) (inbox : SweepInbox) (side : Side) :
    (a.halfFrame inbox side).haltT = a.haltT := rfl
@[simp] theorem ApuState.halfFrame_enP1 (a : ApuState) (inbox : SweepInbox) (side : Side) :
    (a.halfFrame inbox side).enP1 = a.enP1 := rfl
@[simp] theorem ApuState.halfFrame_enP2 (a : ApuState) (inbox : SweepInbox) (side : Side) :
    (a.halfFrame inbox side).enP2 = a.enP2 := rfl
@[simp] theorem ApuState.halfFrame_enT (a : ApuState) (inbox : SweepInbox) (side : Side) :
    (a.halfFrame inbox side).enT = a.enT := rfl
@[simp] theorem ApuState.halfFrame_enN (a : ApuState) (inbox : SweepInbox) (side : Side) :
    (a.halfFrame inbox side).enN = a.enN := rfl
@[simp] theorem ApuState.halfFrame_enDmc (a : ApuState) (inbox : SweepInbox) (side : Side) :
    (a.halfFrame inbox side).enDmc = a.enDmc := rfl
@[simp] theorem ApuState.halfFrame_linCounter (a : ApuState) (inbox : SweepInbox) (side : Side) :
    (a.halfFrame inbox side).linCounter = a.linCounter := rfl
@[simp] theorem ApuState.halfFrame_linReload (a : ApuState) (inbox : SweepInbox) (side : Side) :
    (a.halfFrame inbox side).linReload = a.linReload := rfl
@[simp] theorem ApuState.halfFrame_linReloadFlag (a : ApuState) (inbox : SweepInbox) (side : Side) :
    (a.halfFrame inbox side).linReloadFlag = a.linReloadFlag := rfl
@[simp] theorem ApuState.halfFrame_dmcReg (a : ApuState) (inbox : SweepInbox) (side : Side) :
    (a.halfFrame inbox side).dmcReg = a.dmcReg := rfl

/-- What one `ApuTick` can do: the count, and then no event, the quarter-frame event, or both (rule
R112). -/
theorem ApuState.apuTick_cases (a : ApuState) (inbox : SweepInbox) (side : Side) :
    (firesQuarter (a.fc + 1) = false ∧ firesHalf (a.fc + 1) = false ∧
        a.apuTick inbox side = { a with fc := wrapCount (a.fc + 1) }) ∨
      (firesQuarter (a.fc + 1) = true ∧ firesHalf (a.fc + 1) = false ∧
        a.apuTick inbox side = ApuState.quarterFrame { a with fc := wrapCount (a.fc + 1) }) ∨
      (firesQuarter (a.fc + 1) = true ∧ firesHalf (a.fc + 1) = true ∧
        a.apuTick inbox side =
          (ApuState.quarterFrame { a with fc := wrapCount (a.fc + 1) }).halfFrame inbox side) := by
  have himp : firesHalf (a.fc + 1) = true → firesQuarter (a.fc + 1) = true := by
    simp only [firesHalf, firesQuarter, Bool.or_eq_true]
    tauto
  unfold ApuState.apuTick
  dsimp only
  cases hh : firesHalf (a.fc + 1) <;> cases hq : firesQuarter (a.fc + 1) <;> simp_all

/-- The count after an `ApuTick` (rule R112). -/
theorem ApuState.apuTick_fc (a : ApuState) (inbox : SweepInbox) (side : Side) :
    (a.apuTick inbox side).fc = wrapCount (a.fc + 1) := by
  rcases a.apuTick_cases inbox side with ⟨-, -, h⟩ | ⟨-, -, h⟩ | ⟨-, -, h⟩ <;> rw [h] <;> rfl

/-- An `ApuTick` does not count system ticks (rules R111, R112). -/
@[simp] theorem ApuState.apuTick_tick (a : ApuState) (inbox : SweepInbox) (side : Side) :
    (a.apuTick inbox side).tick = a.tick := by
  rcases a.apuTick_cases inbox side with ⟨-, -, h⟩ | ⟨-, -, h⟩ | ⟨-, -, h⟩ <;> rw [h] <;> rfl

/-- The frame counter stays below the wrap (rules R35, R48). -/
theorem wrapCount_le {count : Nat} (h : count ≤ lastCount) : wrapCount count ≤ 14915 := by
  unfold wrapCount
  unfold lastCount at *
  split <;> omega

end Sys2Proof.Machine
end

