-- ==== Sys2Proof/Laws/PerInstr.lean ====
section
/-! SUPPORT. The family EncodesKind: the kind of transaction each instruction's word is, one lemma per
constructor of Instr. -/

namespace Sys2Proof.Laws.EncodesKind

/-- The kind of transaction an instruction is (rules R90, R98). -/
def kindOf : Instr → BitVec 3
  | .m0CpuRead _ => kindCpuRead
  | .m0CpuWrite _ _ => kindCpuWrite
  | .m0PpuRead _ => kindPpuRead
  | .m0PpuWrite _ _ => kindPpuWrite
  | .m1SramRead _ => kindCpuRead
  | .m1SramWrite _ _ => kindCpuWrite
  | .m1SerialReset => kindCpuWrite
  | .m1SerialShift _ _ => kindCpuWrite
  | .m1CpuRead _ => kindCpuRead
  | .m1PpuRead _ => kindPpuRead
  | .m1PpuWrite _ _ => kindPpuWrite
  | .m2BankSelect _ => kindCpuWrite
  | .m2CpuRead _ => kindCpuRead
  | .m2PpuRead _ => kindPpuRead
  | .m2PpuWrite _ _ => kindPpuWrite
  | .m3ChrSelect _ => kindCpuWrite
  | .m3CpuRead _ => kindCpuRead
  | .m3PpuRead _ => kindPpuRead
  | .m3PpuWrite _ _ => kindPpuWrite
  | .m4SramRead _ => kindCpuRead
  | .m4SramWrite _ _ => kindCpuWrite
  | .m4BankSelect _ _ _ => kindCpuWrite
  | .m4BankData _ => kindCpuWrite
  | .m4Mirror _ => kindCpuWrite
  | .m4RamProtect => kindCpuWrite
  | .m4IrqLatch _ => kindCpuWrite
  | .m4IrqReload => kindCpuWrite
  | .m4IrqDisable => kindCpuWrite
  | .m4IrqEnable => kindCpuWrite
  | .m4CpuRead _ => kindCpuRead
  | .m4PpuRead _ => kindPpuRead
  | .m4PpuWrite _ _ => kindPpuWrite
  | .m9CpuRead _ => kindCpuRead
  | .m9NopWrite => kindCpuWrite
  | .m9PrgSelect _ => kindCpuWrite
  | .m9ChrFd0 _ => kindCpuWrite
  | .m9ChrFe0 _ => kindCpuWrite
  | .m9ChrFd1 _ => kindCpuWrite
  | .m9ChrFe1 _ => kindCpuWrite
  | .m9Mirror _ => kindCpuWrite
  | .m9PpuReadFd0 _ => kindPpuRead
  | .m9PpuReadFe0 _ => kindPpuRead
  | .m9PpuReadFd1 _ => kindPpuRead
  | .m9PpuReadFe1 _ => kindPpuRead
  | .m9PpuRead _ => kindPpuRead
  | .m9PpuWrite _ _ => kindPpuWrite
  | .m0Reset => kindEvent
  | .m0MirrorQ => kindEvent
  | .m0Scanline => kindEvent
  | .m0IrqState => kindEvent
  | .m0IrqClear => kindEvent
  | .m1Reset => kindEvent
  | .m1MirrorQ => kindEvent
  | .m1Scanline => kindEvent
  | .m1IrqState => kindEvent
  | .m1IrqClear => kindEvent
  | .m2Reset => kindEvent
  | .m2MirrorQ => kindEvent
  | .m2Scanline => kindEvent
  | .m2IrqState => kindEvent
  | .m2IrqClear => kindEvent
  | .m3Reset => kindEvent
  | .m3MirrorQ => kindEvent
  | .m3Scanline => kindEvent
  | .m3IrqState => kindEvent
  | .m3IrqClear => kindEvent
  | .m4Reset => kindEvent
  | .m4MirrorQ => kindEvent
  | .m4Scanline => kindEvent
  | .m4IrqState => kindEvent
  | .m4IrqClear => kindEvent
  | .m9Reset => kindEvent
  | .m9MirrorQ => kindEvent
  | .m9Scanline => kindEvent
  | .m9IrqState => kindEvent
  | .m9IrqClear => kindEvent
  | .apuP1Env _ _ _ _ => kindCpuWrite
  | .apuP1Sweep _ => kindCpuWrite
  | .apuP1Tlo _ => kindCpuWrite
  | .apuP1Len _ _ => kindCpuWrite
  | .apuP2Env _ _ _ _ => kindCpuWrite
  | .apuP2Sweep _ => kindCpuWrite
  | .apuP2Tlo _ => kindCpuWrite
  | .apuP2Len _ _ => kindCpuWrite
  | .apuTriLinear _ _ => kindCpuWrite
  | .apuUnused4009 _ => kindCpuWrite
  | .apuTriTlo _ => kindCpuWrite
  | .apuTriLen _ _ => kindCpuWrite
  | .apuNoiEnv _ _ _ => kindCpuWrite
  | .apuUnused400d _ => kindCpuWrite
  | .apuNoiPeriod _ => kindCpuWrite
  | .apuNoiLen _ => kindCpuWrite
  | .apuDmc0 _ => kindCpuWrite
  | .apuDmc1 _ => kindCpuWrite
  | .apuDmc2 _ => kindCpuWrite
  | .apuDmc3 _ => kindCpuWrite
  | .apuStatus _ _ _ _ _ => kindCpuWrite
  | .apuFrame _ => kindCpuWrite
  | .sysTick => kindEvent
  | .apuTick => kindEvent
  | .apuQuarter => kindEvent
  | .apuHalf => kindEvent
  | .apuMix => kindEvent
  | .apuReset => kindEvent

/-- The `kind` field of an instruction's word is that of its row. -/
def Statement (i : Instr) : Prop := (encode i).kind = kindOf i

theorem m0CpuRead (within : BitVec 15) : Statement (.m0CpuRead within) := Tw.kind_pack _ _ _
theorem m0CpuWrite (within : BitVec 15) (value : Byte) : Statement (.m0CpuWrite within value) := Tw.kind_pack _ _ _
theorem m0PpuRead (within : BitVec 13) : Statement (.m0PpuRead within) := Tw.kind_pack _ _ _
theorem m0PpuWrite (within : BitVec 13) (value : Byte) : Statement (.m0PpuWrite within value) := Tw.kind_pack _ _ _
theorem m1SramRead (index : BitVec 13) : Statement (.m1SramRead index) := Tw.kind_pack _ _ _
theorem m1SramWrite (index : BitVec 13) (value : Byte) : Statement (.m1SramWrite index value) := Tw.kind_pack _ _ _
theorem m1SerialReset : Statement .m1SerialReset := Tw.kind_pack _ _ _
theorem m1SerialShift (bit : BitVec 1) (target : BitVec 2) : Statement (.m1SerialShift bit target) := Tw.kind_pack _ _ _
theorem m1CpuRead (within : BitVec 15) : Statement (.m1CpuRead within) := Tw.kind_pack _ _ _
theorem m1PpuRead (within : BitVec 13) : Statement (.m1PpuRead within) := Tw.kind_pack _ _ _
theorem m1PpuWrite (within : BitVec 13) (value : Byte) : Statement (.m1PpuWrite within value) := Tw.kind_pack _ _ _
theorem m2BankSelect (bank : BitVec 4) : Statement (.m2BankSelect bank) := Tw.kind_pack _ _ _
theorem m2CpuRead (within : BitVec 15) : Statement (.m2CpuRead within) := Tw.kind_pack _ _ _
theorem m2PpuRead (within : BitVec 13) : Statement (.m2PpuRead within) := Tw.kind_pack _ _ _
theorem m2PpuWrite (within : BitVec 13) (value : Byte) : Statement (.m2PpuWrite within value) := Tw.kind_pack _ _ _
theorem m3ChrSelect (bank : BitVec 2) : Statement (.m3ChrSelect bank) := Tw.kind_pack _ _ _
theorem m3CpuRead (within : BitVec 15) : Statement (.m3CpuRead within) := Tw.kind_pack _ _ _
theorem m3PpuRead (within : BitVec 13) : Statement (.m3PpuRead within) := Tw.kind_pack _ _ _
theorem m3PpuWrite (within : BitVec 13) (value : Byte) : Statement (.m3PpuWrite within value) := Tw.kind_pack _ _ _
theorem m4SramRead (index : BitVec 13) : Statement (.m4SramRead index) := Tw.kind_pack _ _ _
theorem m4SramWrite (index : BitVec 13) (value : Byte) : Statement (.m4SramWrite index value) := Tw.kind_pack _ _ _
theorem m4BankSelect (chrInv prgMode : Bool) (target : BitVec 3) : Statement (.m4BankSelect chrInv prgMode target) := Tw.kind_pack _ _ _
theorem m4BankData (value : Byte) : Statement (.m4BankData value) := Tw.kind_pack _ _ _
theorem m4Mirror (horizontal : Bool) : Statement (.m4Mirror horizontal) := Tw.kind_pack _ _ _
theorem m4RamProtect : Statement .m4RamProtect := Tw.kind_pack _ _ _
theorem m4IrqLatch (reload : Byte) : Statement (.m4IrqLatch reload) := Tw.kind_pack _ _ _
theorem m4IrqReload : Statement .m4IrqReload := Tw.kind_pack _ _ _
theorem m4IrqDisable : Statement .m4IrqDisable := Tw.kind_pack _ _ _
theorem m4IrqEnable : Statement .m4IrqEnable := Tw.kind_pack _ _ _
theorem m4CpuRead (within : BitVec 15) : Statement (.m4CpuRead within) := Tw.kind_pack _ _ _
theorem m4PpuRead (within : BitVec 13) : Statement (.m4PpuRead within) := Tw.kind_pack _ _ _
theorem m4PpuWrite (within : BitVec 13) (value : Byte) : Statement (.m4PpuWrite within value) := Tw.kind_pack _ _ _
theorem m9CpuRead (within : BitVec 15) : Statement (.m9CpuRead within) := Tw.kind_pack _ _ _
theorem m9NopWrite : Statement .m9NopWrite := Tw.kind_pack _ _ _
theorem m9PrgSelect (bank : BitVec 4) : Statement (.m9PrgSelect bank) := Tw.kind_pack _ _ _
theorem m9ChrFd0 (bank : BitVec 5) : Statement (.m9ChrFd0 bank) := Tw.kind_pack _ _ _
theorem m9ChrFe0 (bank : BitVec 5) : Statement (.m9ChrFe0 bank) := Tw.kind_pack _ _ _
theorem m9ChrFd1 (bank : BitVec 5) : Statement (.m9ChrFd1 bank) := Tw.kind_pack _ _ _
theorem m9ChrFe1 (bank : BitVec 5) : Statement (.m9ChrFe1 bank) := Tw.kind_pack _ _ _
theorem m9Mirror (horizontal : Bool) : Statement (.m9Mirror horizontal) := Tw.kind_pack _ _ _
theorem m9PpuReadFd0 (low : BitVec 4) : Statement (.m9PpuReadFd0 low) := Tw.kind_pack _ _ _
theorem m9PpuReadFe0 (low : BitVec 4) : Statement (.m9PpuReadFe0 low) := Tw.kind_pack _ _ _
theorem m9PpuReadFd1 (low : BitVec 4) : Statement (.m9PpuReadFd1 low) := Tw.kind_pack _ _ _
theorem m9PpuReadFe1 (low : BitVec 4) : Statement (.m9PpuReadFe1 low) := Tw.kind_pack _ _ _
theorem m9PpuRead (within : BitVec 13) : Statement (.m9PpuRead within) := Tw.kind_pack _ _ _
theorem m9PpuWrite (within : BitVec 13) (value : Byte) : Statement (.m9PpuWrite within value) := Tw.kind_pack _ _ _
theorem m0Reset : Statement .m0Reset := Tw.kind_pack _ _ _
theorem m0MirrorQ : Statement .m0MirrorQ := Tw.kind_pack _ _ _
theorem m0Scanline : Statement .m0Scanline := Tw.kind_pack _ _ _
theorem m0IrqState : Statement .m0IrqState := Tw.kind_pack _ _ _
theorem m0IrqClear : Statement .m0IrqClear := Tw.kind_pack _ _ _
theorem m1Reset : Statement .m1Reset := Tw.kind_pack _ _ _
theorem m1MirrorQ : Statement .m1MirrorQ := Tw.kind_pack _ _ _
theorem m1Scanline : Statement .m1Scanline := Tw.kind_pack _ _ _
theorem m1IrqState : Statement .m1IrqState := Tw.kind_pack _ _ _
theorem m1IrqClear : Statement .m1IrqClear := Tw.kind_pack _ _ _
theorem m2Reset : Statement .m2Reset := Tw.kind_pack _ _ _
theorem m2MirrorQ : Statement .m2MirrorQ := Tw.kind_pack _ _ _
theorem m2Scanline : Statement .m2Scanline := Tw.kind_pack _ _ _
theorem m2IrqState : Statement .m2IrqState := Tw.kind_pack _ _ _
theorem m2IrqClear : Statement .m2IrqClear := Tw.kind_pack _ _ _
theorem m3Reset : Statement .m3Reset := Tw.kind_pack _ _ _
theorem m3MirrorQ : Statement .m3MirrorQ := Tw.kind_pack _ _ _
theorem m3Scanline : Statement .m3Scanline := Tw.kind_pack _ _ _
theorem m3IrqState : Statement .m3IrqState := Tw.kind_pack _ _ _
theorem m3IrqClear : Statement .m3IrqClear := Tw.kind_pack _ _ _
theorem m4Reset : Statement .m4Reset := Tw.kind_pack _ _ _
theorem m4MirrorQ : Statement .m4MirrorQ := Tw.kind_pack _ _ _
theorem m4Scanline : Statement .m4Scanline := Tw.kind_pack _ _ _
theorem m4IrqState : Statement .m4IrqState := Tw.kind_pack _ _ _
theorem m4IrqClear : Statement .m4IrqClear := Tw.kind_pack _ _ _
theorem m9Reset : Statement .m9Reset := Tw.kind_pack _ _ _
theorem m9MirrorQ : Statement .m9MirrorQ := Tw.kind_pack _ _ _
theorem m9Scanline : Statement .m9Scanline := Tw.kind_pack _ _ _
theorem m9IrqState : Statement .m9IrqState := Tw.kind_pack _ _ _
theorem m9IrqClear : Statement .m9IrqClear := Tw.kind_pack _ _ _
theorem apuP1Env (duty : BitVec 2) (halt constant : Bool) (volume : BitVec 4) : Statement (.apuP1Env duty halt constant volume) := Tw.kind_pack _ _ _
theorem apuP1Sweep (value : Byte) : Statement (.apuP1Sweep value) := Tw.kind_pack _ _ _
theorem apuP1Tlo (value : Byte) : Statement (.apuP1Tlo value) := Tw.kind_pack _ _ _
theorem apuP1Len (index : BitVec 5) (timerHigh : BitVec 3) : Statement (.apuP1Len index timerHigh) := Tw.kind_pack _ _ _
theorem apuP2Env (duty : BitVec 2) (halt constant : Bool) (volume : BitVec 4) : Statement (.apuP2Env duty halt constant volume) := Tw.kind_pack _ _ _
theorem apuP2Sweep (value : Byte) : Statement (.apuP2Sweep value) := Tw.kind_pack _ _ _
theorem apuP2Tlo (value : Byte) : Statement (.apuP2Tlo value) := Tw.kind_pack _ _ _
theorem apuP2Len (index : BitVec 5) (timerHigh : BitVec 3) : Statement (.apuP2Len index timerHigh) := Tw.kind_pack _ _ _
theorem apuTriLinear (halt : Bool) (reload : BitVec 7) : Statement (.apuTriLinear halt reload) := Tw.kind_pack _ _ _
theorem apuUnused4009 (value : Byte) : Statement (.apuUnused4009 value) := Tw.kind_pack _ _ _
theorem apuTriTlo (value : Byte) : Statement (.apuTriTlo value) := Tw.kind_pack _ _ _
theorem apuTriLen (index : BitVec 5) (timerHigh : BitVec 3) : Statement (.apuTriLen index timerHigh) := Tw.kind_pack _ _ _
theorem apuNoiEnv (halt constant : Bool) (volume : BitVec 4) : Statement (.apuNoiEnv halt constant volume) := Tw.kind_pack _ _ _
theorem apuUnused400d (value : Byte) : Statement (.apuUnused400d value) := Tw.kind_pack _ _ _
theorem apuNoiPeriod (value : Byte) : Statement (.apuNoiPeriod value) := Tw.kind_pack _ _ _
theorem apuNoiLen (index : BitVec 5) : Statement (.apuNoiLen index) := Tw.kind_pack _ _ _
theorem apuDmc0 (value : Byte) : Statement (.apuDmc0 value) := Tw.kind_pack _ _ _
theorem apuDmc1 (value : Byte) : Statement (.apuDmc1 value) := Tw.kind_pack _ _ _
theorem apuDmc2 (value : Byte) : Statement (.apuDmc2 value) := Tw.kind_pack _ _ _
theorem apuDmc3 (value : Byte) : Statement (.apuDmc3 value) := Tw.kind_pack _ _ _
theorem apuStatus (dmc noise triangle pulse2 pulse1 : Bool) : Statement (.apuStatus dmc noise triangle pulse2 pulse1) := Tw.kind_pack _ _ _
theorem apuFrame (value : Byte) : Statement (.apuFrame value) := Tw.kind_pack _ _ _
theorem sysTick : Statement .sysTick := Tw.kind_pack _ _ _
theorem apuTick : Statement .apuTick := Tw.kind_pack _ _ _
theorem apuQuarter : Statement .apuQuarter := Tw.kind_pack _ _ _
theorem apuHalf : Statement .apuHalf := Tw.kind_pack _ _ _
theorem apuMix : Statement .apuMix := Tw.kind_pack _ _ _
theorem apuReset : Statement .apuReset := Tw.kind_pack _ _ _

end Sys2Proof.Laws.EncodesKind
end

