-- ==== Sys2Proof/Tests/Slice0.lean ====
section
/-! SUPPORT. The author's own tests: the well-formedness smoke test, a word of every row of the opcode
map, one or two single steps of every operation with results from `spec/95_test_vectors.md` and from
the worked examples of the rules, and for every statement with hypotheses a case that meets them. -/

namespace Sys2Proof.Tests

open Sys2Proof Sys2Proof.Machine Sys2Proof.Machine.Stated

/-! ### Well-formedness -/

/-- The one check of `WellFormed`: an address in one of the four latch ranges is no general PPU read. -/
theorem test_wellformed_smoke :
    (Instr.m9PpuRead 0x0FD0).wellFormed = false ∧ (Instr.m9PpuRead 0x0FEF).wellFormed = false ∧
    (Instr.m9PpuRead 0x1FD8).wellFormed = false ∧ (Instr.m9PpuRead 0x1FE0).wellFormed = false ∧
    (Instr.m9PpuRead 0x0FCF).wellFormed = true ∧ (Instr.m9PpuRead 0x0FF0).wellFormed = true := by
  decide

/-! ### Words -/

/-- Every row of mapper 0's table: `kind`, `addr` and `data` as rule R90 lays them out, the fixed bits as the row of rule
R98 has them, the fields as rules R94 and R95 cut them. -/
theorem test_words_of_mapper_zero :
    decode .m0 0b000_1111111111111100_00000000#27 = .ok (.m0CpuRead 0x7FFC) ∧
    decode .m0 0b001_1000000000000001_00010010#27 = .ok (.m0CpuWrite 1 0x12) ∧
    decode .m0 0b010_0001111111111111_00000000#27 = .ok (.m0PpuRead 0x1FFF) ∧
    decode .m0 0b011_0000000000010000_10101011#27 = .ok (.m0PpuWrite 0x10 0xAB) ∧
    decode .m0 0b100_0000000000000000_00000000#27 = .ok (.m0Reset) ∧
    decode .m0 0b100_0000000000000000_00000001#27 = .ok (.m0Scanline) ∧
    decode .m0 0b100_0000000000000000_00000010#27 = .ok (.m0IrqState) ∧
    decode .m0 0b100_0000000000000000_00000011#27 = .ok (.m0IrqClear) ∧
    decode .m0 0b100_0000000000000000_00000100#27 = .ok (.m0MirrorQ) := by
  decide

/-- Every row of mapper 1's table: `kind`, `addr` and `data` as rule R90 lays them out, the fixed bits as the row of rule
R98 has them, the fields as rules R94 and R95 cut them. -/
theorem test_words_of_mapper_one :
    decode .m1 0b000_0110000100100011_00000000#27 = .ok (.m1SramRead 0x123) ∧
    decode .m1 0b001_0111111111111111_11001101#27 = .ok (.m1SramWrite 0x1FFF 0xCD) ∧
    decode .m1 0b001_1111111111111111_10000000#27 = .ok (.m1SerialReset) ∧
    decode .m1 0b001_1010000000000000_01111111#27 = .ok (.m1SerialShift 1 1) ∧
    decode .m1 0b001_1100000000000000_01111110#27 = .ok (.m1SerialShift 0 2) ∧
    decode .m1 0b000_1010000100100011_00000000#27 = .ok (.m1CpuRead 0x2123) ∧
    decode .m1 0b010_0001000000010000_00000000#27 = .ok (.m1PpuRead 0x1010) ∧
    decode .m1 0b011_0001101010111100_00000001#27 = .ok (.m1PpuWrite 0x1ABC 1) ∧
    decode .m1 0b100_0000000000000000_00000000#27 = .ok (.m1Reset) ∧
    decode .m1 0b100_0000000000000000_00000001#27 = .ok (.m1Scanline) ∧
    decode .m1 0b100_0000000000000000_00000010#27 = .ok (.m1IrqState) ∧
    decode .m1 0b100_0000000000000000_00000011#27 = .ok (.m1IrqClear) ∧
    decode .m1 0b100_0000000000000000_00000100#27 = .ok (.m1MirrorQ) := by
  decide

/-- Every row of mapper 2's table: `kind`, `addr` and `data` as rule R90 lays them out, the fixed bits as the row of rule
R98 has them, the fields as rules R94 and R95 cut them. -/
theorem test_words_of_mapper_two :
    decode .m2 0b001_1111111111111111_11111110#27 = .ok (.m2BankSelect 14) ∧
    decode .m2 0b000_1000000100100011_00000000#27 = .ok (.m2CpuRead 0x123) ∧
    decode .m2 0b010_0001101010111100_00000000#27 = .ok (.m2PpuRead 0x1ABC) ∧
    decode .m2 0b011_0000000000010000_10101010#27 = .ok (.m2PpuWrite 0x10 0xAA) ∧
    decode .m2 0b100_0000000000000000_00000000#27 = .ok (.m2Reset) ∧
    decode .m2 0b100_0000000000000000_00000001#27 = .ok (.m2Scanline) ∧
    decode .m2 0b100_0000000000000000_00000010#27 = .ok (.m2IrqState) ∧
    decode .m2 0b100_0000000000000000_00000011#27 = .ok (.m2IrqClear) ∧
    decode .m2 0b100_0000000000000000_00000100#27 = .ok (.m2MirrorQ) := by
  decide

/-- Every row of mapper 3's table: `kind`, `addr` and `data` as rule R90 lays them out, the fixed bits as the row of rule
R98 has them, the fields as rules R94 and R95 cut them. -/
theorem test_words_of_mapper_three :
    decode .m3 0b001_1100000100100011_11111110#27 = .ok (.m3ChrSelect 2) ∧
    decode .m3 0b000_1100000000000000_00000000#27 = .ok (.m3CpuRead 0x4000) ∧
    decode .m3 0b010_0000101010111100_00000000#27 = .ok (.m3PpuRead 0xABC) ∧
    decode .m3 0b011_0000000000000000_00000001#27 = .ok (.m3PpuWrite 0 1) ∧
    decode .m3 0b100_0000000000000000_00000000#27 = .ok (.m3Reset) ∧
    decode .m3 0b100_0000000000000000_00000001#27 = .ok (.m3Scanline) ∧
    decode .m3 0b100_0000000000000000_00000010#27 = .ok (.m3IrqState) ∧
    decode .m3 0b100_0000000000000000_00000011#27 = .ok (.m3IrqClear) ∧
    decode .m3 0b100_0000000000000000_00000100#27 = .ok (.m3MirrorQ) := by
  decide

/-- Every row of mapper 4's table: `kind`, `addr` and `data` as rule R90 lays them out, the fixed bits as the row of rule
R98 has them, the fields as rules R94 and R95 cut them. -/
theorem test_words_of_mapper_four :
    decode .m4 0b000_0110000000000000_00000000#27 = .ok (.m4SramRead 0) ∧
    decode .m4 0b001_0110000100100011_01011010#27 = .ok (.m4SramWrite 0x123 0x5A) ∧
    decode .m4 0b001_1000000000000000_01000110#27 = .ok (.m4BankSelect false true 6) ∧
    decode .m4 0b001_1001111111111110_10111001#27 = .ok (.m4BankSelect true false 1) ∧
    decode .m4 0b001_1001111111111111_10000000#27 = .ok (.m4BankData 0x80) ∧
    decode .m4 0b001_1011111111111110_11111111#27 = .ok (.m4Mirror true) ∧
    decode .m4 0b001_1010000000000001_11111111#27 = .ok (.m4RamProtect) ∧
    decode .m4 0b001_1100000000000000_00000101#27 = .ok (.m4IrqLatch 5) ∧
    decode .m4 0b001_1100000000000001_00000101#27 = .ok (.m4IrqReload) ∧
    decode .m4 0b001_1110000000000000_00000000#27 = .ok (.m4IrqDisable) ∧
    decode .m4 0b001_1111111111111111_00000000#27 = .ok (.m4IrqEnable) ∧
    decode .m4 0b000_1011111111111111_00000000#27 = .ok (.m4CpuRead 0x3FFF) ∧
    decode .m4 0b010_0001001111111111_00000000#27 = .ok (.m4PpuRead 0x13FF) ∧
    decode .m4 0b011_0000000000000000_00000001#27 = .ok (.m4PpuWrite 0 1) ∧
    decode .m4 0b100_0000000000000000_00000000#27 = .ok (.m4Reset) ∧
    decode .m4 0b100_0000000000000000_00000001#27 = .ok (.m4Scanline) ∧
    decode .m4 0b100_0000000000000000_00000010#27 = .ok (.m4IrqState) ∧
    decode .m4 0b100_0000000000000000_00000011#27 = .ok (.m4IrqClear) ∧
    decode .m4 0b100_0000000000000000_00000100#27 = .ok (.m4MirrorQ) := by
  decide

/-- Every row of mapper 9's table: `kind`, `addr` and `data` as rule R90 lays them out, the fixed bits as the row of rule
R98 has them, the fields as rules R94 and R95 cut them. -/
theorem test_words_of_mapper_nine :
    decode .m9 0b000_1110000000000000_00000000#27 = .ok (.m9CpuRead 0x6000) ∧
    decode .m9 0b001_1001111111111111_11111111#27 = .ok (.m9NopWrite) ∧
    decode .m9 0b001_1010000000000000_11110101#27 = .ok (.m9PrgSelect 5) ∧
    decode .m9 0b001_1011000000000000_11100010#27 = .ok (.m9ChrFd0 2) ∧
    decode .m9 0b001_1100111111111111_00000100#27 = .ok (.m9ChrFe0 4) ∧
    decode .m9 0b001_1101000000000000_00000110#27 = .ok (.m9ChrFd1 6) ∧
    decode .m9 0b001_1110000000000000_00011111#27 = .ok (.m9ChrFe1 31) ∧
    decode .m9 0b001_1111000000000000_11111110#27 = .ok (.m9Mirror false) ∧
    decode .m9 0b010_0000111111011111_00000000#27 = .ok (.m9PpuReadFd0 15) ∧
    decode .m9 0b010_0000111111100000_00000000#27 = .ok (.m9PpuReadFe0 0) ∧
    decode .m9 0b010_0001111111010001_00000000#27 = .ok (.m9PpuReadFd1 1) ∧
    decode .m9 0b010_0001111111101111_00000000#27 = .ok (.m9PpuReadFe1 15) ∧
    decode .m9 0b010_0000111111001111_00000000#27 = .ok (.m9PpuRead 0xFCF) ∧
    decode .m9 0b010_0001111111110000_00000000#27 = .ok (.m9PpuRead 0x1FF0) ∧
    decode .m9 0b011_0000111111010000_00000000#27 = .ok (.m9PpuWrite 0xFD0 0) ∧
    decode .m9 0b100_0000000000000000_00000000#27 = .ok (.m9Reset) ∧
    decode .m9 0b100_0000000000000000_00000001#27 = .ok (.m9Scanline) ∧
    decode .m9 0b100_0000000000000000_00000010#27 = .ok (.m9IrqState) ∧
    decode .m9 0b100_0000000000000000_00000011#27 = .ok (.m9IrqClear) ∧
    decode .m9 0b100_0000000000000000_00000100#27 = .ok (.m9MirrorQ) := by
  decide

/-- The APU rows of the two pulse channels, on a block with mapper 0. -/
theorem test_words_of_pulses :
    decode .m0 0b001_0100000000000000_00111111#27 = .ok (.apuP1Env 0 true true 15) ∧
    decode .m0 0b001_0100000000000001_10001000#27 = .ok (.apuP1Sweep 0x88) ∧
    decode .m0 0b001_0100000000000010_11111101#27 = .ok (.apuP1Tlo 0xFD) ∧
    decode .m0 0b001_0100000000000011_11111000#27 = .ok (.apuP1Len 31 0) ∧
    decode .m0 0b001_0100000000000100_11010101#27 = .ok (.apuP2Env 3 false true 5) ∧
    decode .m0 0b001_0100000000000101_00001000#27 = .ok (.apuP2Sweep 8) ∧
    decode .m0 0b001_0100000000000110_00000001#27 = .ok (.apuP2Tlo 1) ∧
    decode .m0 0b001_0100000000000111_00001011#27 = .ok (.apuP2Len 1 3) := by
  decide

/-- The other APU register rows, on a block with mapper 9. -/
theorem test_words_of_triangle_noise_and_dmc :
    decode .m9 0b001_0100000000001000_10000011#27 = .ok (.apuTriLinear true 3) ∧
    decode .m9 0b001_0100000000001001_11111111#27 = .ok (.apuUnused4009 0xFF) ∧
    decode .m9 0b001_0100000000001010_00010000#27 = .ok (.apuTriTlo 0x10) ∧
    decode .m9 0b001_0100000000001011_00011111#27 = .ok (.apuTriLen 3 7) ∧
    decode .m9 0b001_0100000000001100_11100111#27 = .ok (.apuNoiEnv true false 7) ∧
    decode .m9 0b001_0100000000001101_11111111#27 = .ok (.apuUnused400d 0xFF) ∧
    decode .m9 0b001_0100000000001110_10001111#27 = .ok (.apuNoiPeriod 0x8F) ∧
    decode .m9 0b001_0100000000001111_11111111#27 = .ok (.apuNoiLen 31) ∧
    decode .m9 0b001_0100000000010000_01001111#27 = .ok (.apuDmc0 0x4f) ∧
    decode .m9 0b001_0100000000010001_00000010#27 = .ok (.apuDmc1 0x2) ∧
    decode .m9 0b001_0100000000010010_00000011#27 = .ok (.apuDmc2 0x3) ∧
    decode .m9 0b001_0100000000010011_00000001#27 = .ok (.apuDmc3 0x1) ∧
    decode .m9 0b001_0100000000010101_11101001#27 = .ok (.apuStatus false true false false true) ∧
    decode .m9 0b001_0100000000010111_11000000#27 = .ok (.apuFrame 0xC0) := by
  decide

/-- The APU event rows, on a block with mapper 2. -/
theorem test_words_of_apu_events :
    decode .m2 0b100_0000000000000000_00000101#27 = .ok (.sysTick) ∧
    decode .m2 0b100_0000000000000000_00000110#27 = .ok (.apuTick) ∧
    decode .m2 0b100_0000000000000000_00000111#27 = .ok (.apuQuarter) ∧
    decode .m2 0b100_0000000000000000_00001000#27 = .ok (.apuHalf) ∧
    decode .m2 0b100_0000000000000000_00001001#27 = .ok (.apuMix) ∧
    decode .m2 0b100_0000000000000000_00001010#27 = .ok (.apuReset) := by
  decide

/-- The words of `spec/95_test_vectors.md` section 2.10 that no row matches, and rule R97 (a)'s. -/
theorem test_words_that_are_no_operation :
    decode .m0 0x0600000#27 = .error .notClaimed ∧ decode .m9 0x0600000#27 = .error .notClaimed ∧
    decode .m4 0x2200000#27 = .error .notClaimed ∧ decode .m1 0x1401400#27 = .error .notClaimed ∧
    decode .m1 0x0401500#27 = .error .notClaimed ∧ decode .m3 0x5000000#27 = .error .neverGenerated ∧
    decode .m3 0x400000B#27 = .error .neverGenerated ∧
    decode .m3 0x4000100#27 = .error .neverGenerated := by
  decide

/-- The two definitions by which the host asks: `M4.BANK_DATA` in 27 and in 32 bits, and nothing above
the word's 27 bits. -/
theorem test_decodeTableWord :
    decodeTableWord 27 0x19FFF80 = some (.m4BankData 0x80) ∧
    decodeTableWord 32 0x1401500 = some (.apuStatus false false false false false) ∧
    decodeTableWord 32 0x8000000 = none := by
  decide

/-! ### Small states -/

/-- A block with the given registers under the configuration `c`, in the shape that `c` gives it. -/
def blockUnder (map : MapState) (c : Cfg) : State :=
  Block.under { Block.reset c with map := map } Environment.reset c

/-- A configuration of the mapper `m` with the given bank counts. -/
def banks (m : MapperId) (prgBanks chrBanks : Nat) : Cfg :=
  { resetCfg with mapperId := m, prgBanks := prgBanks, chrBanks := chrBanks }

/-- A block with the given registers and bank counts. -/
def block (map : MapState) (prgBanks chrBanks : Nat) : State :=
  blockUnder map (banks map.id prgBanks chrBanks)

/-- The block with other APU state. -/
def withApu (apu : ApuState) : State := State.reset.setApu apu

/-- What an instruction answers. -/
def respOf (i : Instr) (s : State) : Option Response :=
  match exec i s with
  | .next t => some t.out.resp
  | _ => none

/-- The mapper registers an instruction leaves. -/
def mapOf (i : Instr) (s : State) : Option MapState :=
  match exec i s with
  | .next t => some t.map
  | _ => none

/-- The APU state an instruction leaves. -/
def apuOf (i : Instr) (s : State) : Option ApuState :=
  match exec i s with
  | .next t => some t.apu
  | _ => none

/-- The state an instruction leaves. -/
def stateOf (i : Instr) (s : State) : Option State :=
  match exec i s with
  | .next t => some t
  | _ => none

/-- The state a step leaves. -/
def stepOf (s : State) : Option State :=
  match step s with
  | .next t => some t
  | _ => none

/-- What one block of mapper 0 answers to a read of $FFFC under the configuration `c`. -/
def respUnder (c : Cfg) : Option Response :=
  match blockStep c { Environment.reset with pending := [⟨0x0FFFC00#27, Side.reset⟩] }
      { Block.reset (banks .m0 1 1) with map := .m0 } with
  | .next (_, e) => some e.out.resp
  | _ => none

/-- An answered offset, with the byte 0 that an unlisted offset holds. -/
def at_ (space : Space) (off : Nat) : Option Response := some (.read (.offset space off) (some 0))

/-! ### Mapper 0 (vectors of section 2.4) -/

theorem test_m0CpuRead :
    respOf (.m0CpuRead 0x4000) (block .m0 1 1) = at_ .prg 0 ∧
    respOf (.m0CpuRead 0x7FFC) (block .m0 2 1) = at_ .prg 0x7FFC ∧
    respOf (.m0CpuRead 0x4000) (blockUnder .m0 { banks .m0 3 1 with prg := [(0x4000, 0xEA)] }) =
      some (.read (.offset .prg 0x4000) (some 0xEA)) := by decide

theorem test_m0CpuWrite_discarded :
    respOf (.m0CpuWrite 0 0x12) (block .m0 1 1) = some (.write (.offset .prg 0)) ∧
    stateOf (.m0CpuWrite 0 0x12) (block .m0 1 1) =
      some ((block .m0 1 1).answer (.write (.offset .prg 0))) := by decide

theorem test_m0Ppu :
    respOf (.m0PpuRead 0x1FFF) (block .m0 1 1) = at_ .chr 0x1FFF ∧
    respOf (.m0PpuWrite 0 0x55) (block .m0 1 1) = some (.write .notClaimed) ∧
    stateOf (.m0PpuWrite 0x1234 0x55) (block .m0 1 0) =
      some (((block .m0 1 0).setChr [(0x1234, 0x55)]).answer (.write (.offset .chr 0x1234))) := by
  decide

theorem test_m0_events :
    respOf .m0MirrorQ (block .m0 2 1) = some (.mirror .hardware) ∧
    respOf .m0IrqState (block .m0 2 1) = some (.irq false) ∧
    stateOf .m0Scanline (block .m0 2 1) = some (block .m0 2 1) ∧
    stateOf .m0IrqClear (block .m0 2 1) = some (block .m0 2 1) ∧
    stateOf .m0Reset (block .m0 2 1) = some (block .m0 2 1) := by decide

/-! ### Mapper 1 (vectors of section 2.5) -/

/-- The registers of mapper 1 with an empty loader. -/
def m1 (ctrl chr0 chr1 prg : BitVec 5) : MapState :=
  .m1 { sr := 0, cnt := 0, ctrl := ctrl, chr0 := chr0, chr1 := chr1, prg := prg, lastStep := 0 }

/-- The block of mapper 1 with a gate, a remembered step, a loader, and the step of the next write. -/
def m1Gate (gate : Mmc1Gate) (last step : Nat) (sr : BitVec 5) (cnt : Nat) : State :=
  { blockUnder (.m1 { M1State.reset with sr := sr, cnt := cnt, lastStep := last })
      { banks .m1 8 16 with mmc1Accept := gate } with
    side := { Side.reset with cpuStep := step } }

theorem test_m1CpuRead :
    respOf (.m1CpuRead 0x7FFC) (block (m1 0x1C 0 0 0) 8 16) = at_ .prg 0x1FFFC ∧
    respOf (.m1CpuRead 0) (block (m1 0x1C 0 0 5) 8 16) = at_ .prg 0x14000 ∧
    respOf (.m1CpuRead 0x4000) (block (m1 0x0A 0 0 5) 8 16) = at_ .prg 0x14000 ∧
    respOf (.m1CpuRead 0) (block (m1 0x0A 0 0 5) 8 16) = at_ .prg 0 ∧
    respOf (.m1CpuRead 0x4000) (block (m1 0x02 0 0 5) 8 16) = at_ .prg 0x14000 ∧
    respOf (.m1CpuRead 0) (block (m1 0x1C 0 0 7) 3 0) = at_ .prg 0x4000 := by decide

theorem test_m1PpuRead :
    respOf (.m1PpuRead 0x1123) (block (m1 0x1F 3 0x1F 0) 8 16) = at_ .chr 0x1F123 ∧
    respOf (.m1PpuRead 0x0123) (block (m1 0x0F 3 0x1F 0) 8 16) = at_ .chr 0x02123 ∧
    respOf (.m1PpuRead 0x0123) (block (m1 0x1F 5 0 0) 8 2) = at_ .chr 0x01123 ∧
    respOf (.m1PpuRead 0x1ABC) (block (m1 0x1C 3 3 7) 3 0) = at_ .chr 0x1ABC := by decide

theorem test_m1PpuWrite :
    respOf (.m1PpuWrite 0x1ABC 1) (block (m1 0x1C 0 0 0) 3 0) = some (.write (.offset .chr 0x1ABC)) ∧
    respOf (.m1PpuWrite 0x0010 0xFF) (block (m1 0x0E 5 0 3) 8 16) = some (.write .notClaimed) := by
  decide

/-- Rule R197's gate table: the writes at steps 10, 11 and the second at 14. -/
theorem test_m1SerialShift_gate :
    mapOf (.m1SerialShift 1 3) (m1Gate .literal 0 10 0 0) =
      some (.m1 { M1State.reset with sr := 0x10, cnt := 1, lastStep := 10 }) ∧
    mapOf (.m1SerialShift 1 3) (m1Gate .literal 10 11 0x10 1) =
      some (.m1 { M1State.reset with sr := 0x10, cnt := 1, lastStep := 11 }) ∧
    mapOf (.m1SerialShift 1 3) (m1Gate .inverted 12 14 0x18 2) =
      some (.m1 { M1State.reset with sr := 0x18, cnt := 2, lastStep := 14 }) ∧
    mapOf (.m1SerialShift 1 3) (m1Gate .all 14 14 0x1E 4) =
      some (.m1 { M1State.reset with prg := 0x1F, lastStep := 14 }) := by decide

/-- Rule R195's worked example: the fifth bit of 0x0A commits to `ctrl`. -/
theorem test_m1SerialShift_commit :
    mapOf (.m1SerialShift 0 0) (m1Gate .all 0 0 0x14 4) =
      some (.m1 { M1State.reset with ctrl := 0x0A }) ∧
    mapOf (.m1SerialShift 1 1) (m1Gate .all 0 0 0 4) =
      some (.m1 { M1State.reset with chr0 := 0x10 }) ∧
    mapOf (.m1SerialShift 1 2) (m1Gate .all 0 0 0 4) =
      some (.m1 { M1State.reset with chr1 := 0x10 }) := by decide

/-- Rule R196's worked example. -/
theorem test_m1SerialReset :
    (mapOf .m1SerialReset
      { m1Gate .all 0 7 0x14 4 with map := .m1 { M1State.reset with sr := 0x14, cnt := 4, ctrl := 2 } }) =
      some (.m1 { M1State.reset with ctrl := 0x0E, lastStep := 7 }) ∧
    mapOf .m1SerialReset (m1Gate .literal 6 7 0x14 4) =
      some (.m1 { M1State.reset with sr := 0x14, cnt := 4, lastStep := 7 }) := by decide

/-- Program P1's static RAM access: the byte is stored, `RamWritten` is raised, no register changes. -/
theorem test_m1Sram :
    stateOf (.m1SramWrite 0x123 0x5A) (block (m1 0x0E 5 0 3) 8 16) =
      some { block (m1 0x0E 5 0 3) 8 16 with
        sramState := some [(0x123, 0x5A)]
        out := { Outputs.quiet (.write .internalWrite) with ramWritten := true } } ∧
    respOf (.m1SramRead 0x123) ((block (m1 0x0E 5 0 3) 8 16).setSram [(0x123, 0x5A)]) =
      some (.read (.internalRead 0x5A) (some 0x5A)) := by decide

theorem test_m1_events :
    mapOf .m1Reset (block (m1 0x0E 5 1 3) 8 16) = some (m1 0x1C 0 0 0) ∧
    respOf .m1MirrorQ (block (m1 0x1C 0 0 0) 8 16) = some (.mirror .oneScreenLo) ∧
    respOf .m1MirrorQ (block (m1 0x0E 0 0 0) 8 16) = some (.mirror .vertical) ∧
    respOf .m1IrqState (block (m1 0x1C 0 0 0) 8 16) = some (.irq false) ∧
    stateOf .m1Scanline (block (m1 0x1C 0 0 0) 8 16) = some (block (m1 0x1C 0 0 0) 8 16) ∧
    stateOf .m1IrqClear (block (m1 0x1C 0 0 0) 8 16) = some (block (m1 0x1C 0 0 0) 8 16) := by decide

/-! ### Mappers 2 and 3 (vectors of sections 2.6 and 2.7) -/

theorem test_m2Cpu :
    mapOf (.m2BankSelect 14) (block (.m2 ⟨0⟩) 8 0) = some (.m2 ⟨14⟩) ∧
    respOf (.m2BankSelect 14) (block (.m2 ⟨0⟩) 8 0) = some (.write .notClaimed) ∧
    respOf (.m2CpuRead 0) (block (.m2 ⟨14⟩) 8 0) = at_ .prg 0x18000 ∧
    respOf (.m2CpuRead 0x7FFC) (block (.m2 ⟨14⟩) 8 0) = at_ .prg 0x1FFFC ∧
    respOf (.m2CpuRead 0) (block (.m2 ⟨7⟩) 5 1) = at_ .prg 0x08000 := by decide

theorem test_m2Ppu :
    respOf (.m2PpuRead 0x1ABC) (block (.m2 ⟨0⟩) 8 0) = at_ .chr 0x1ABC ∧
    respOf (.m2PpuWrite 0x0010 0xAA) (block (.m2 ⟨0⟩) 8 0) = some (.write (.offset .chr 0x10)) ∧
    respOf (.m2PpuWrite 0x0010 1) (block (.m2 ⟨7⟩) 5 1) = some (.write .notClaimed) := by decide

theorem test_m2_events :
    mapOf .m2Reset (block (.m2 ⟨5⟩) 8 0) = some (.m2 ⟨0⟩) ∧
    respOf .m2MirrorQ (block (.m2 ⟨5⟩) 8 0) = some (.mirror .hardware) ∧
    respOf .m2IrqState (block (.m2 ⟨5⟩) 8 0) = some (.irq false) ∧
    stateOf .m2Scanline (block (.m2 ⟨5⟩) 8 0) = some (block (.m2 ⟨5⟩) 8 0) ∧
    stateOf .m2IrqClear (block (.m2 ⟨5⟩) 8 0) = some (block (.m2 ⟨5⟩) 8 0) := by decide

theorem test_m3_bus :
    mapOf (.m3ChrSelect 2) (block (.m3 ⟨0⟩) 2 4) = some (.m3 ⟨2⟩) ∧
    respOf (.m3PpuRead 0x1FFF) (block (.m3 ⟨3⟩) 2 4) = at_ .chr 0x7FFF ∧
    respOf (.m3PpuRead 0x0ABC) (block (.m3 ⟨3⟩) 1 2) = at_ .chr 0x2ABC ∧
    respOf (.m3CpuRead 0x4000) (block (.m3 ⟨3⟩) 2 4) = at_ .prg 0x4000 ∧
    respOf (.m3CpuRead 0x4000) (block (.m3 ⟨3⟩) 1 2) = at_ .prg 0 ∧
    respOf (.m3PpuWrite 0 1) (block (.m3 ⟨3⟩) 1 0) = some (.write .notClaimed) := by decide

theorem test_m3_events :
    mapOf .m3Reset (block (.m3 ⟨3⟩) 2 4) = some (.m3 ⟨0⟩) ∧
    respOf .m3MirrorQ (block (.m3 ⟨3⟩) 2 4) = some (.mirror .hardware) ∧
    respOf .m3IrqState (block (.m3 ⟨3⟩) 2 4) = some (.irq false) ∧
    stateOf .m3Scanline (block (.m3 ⟨3⟩) 2 4) = some (block (.m3 ⟨3⟩) 2 4) ∧
    stateOf .m3IrqClear (block (.m3 ⟨3⟩) 2 4) = some (block (.m3 ⟨3⟩) 2 4) := by decide

/-! ### Mapper 4 (vectors of section 2.8 and of rule R235) -/

/-- Mapper 4 after reset, with eight PRG banks and sixteen CHR banks. -/
def m4 : M4State := M4State.reset 8

/-- A block with mapper 4, eight PRG banks and sixteen CHR banks. -/
def block4 (r : M4State) : State := block (.m4 r) 8 16

theorem test_m4Reset :
    mapOf .m4Reset (block4 { m4 with target := 3, irqEnable := true, irqActive := true }) =
      some (.m4 { m4 with
        chrOff := #v[0, 0x400, 0, 0x400, 0, 0, 0, 0], prgOff := #v[0, 0, 0x1C000, 0x1E000] }) ∧
    mapOf .m4Reset (block (.m4 m4) 1 0) = some (.m4 { m4 with prgOff := #v[0, 0, 0, 0x2000] }) := by
  decide

/-- A bank select moves no offset; the next bank data brings both flags into force. -/
theorem test_m4BankSelect :
    mapOf (.m4BankSelect true true 6) (block4 m4) =
      some (.m4 { m4 with target := 6, prgMode := true, chrInv := true }) ∧
    mapOf (.m4BankData 3) (block4 { m4 with target := 6, prgMode := true }) =
      some (.m4 { m4 with
        target := 6, prgMode := true, bank := #v[0, 0, 0, 0, 0, 0, 3, 0]
        prgOff := #v[0x1C000, 0, 0x06000, 0x1E000] }) := by decide

theorem test_m4BankData :
    mapOf (.m4BankData 0x45)
        (block4 { m4 with target := 7, bank := #v[0, 0, 0, 0, 0, 0, 3, 0] }) =
      some (.m4 { m4 with
        target := 7, bank := #v[0, 0, 0, 0, 0, 0, 3, 0x45]
        prgOff := #v[0x06000, 0x0A000, 0x1C000, 0x1E000] }) ∧
    mapOf (.m4BankData 0x21)
        (block4 { m4 with target := 2, chrInv := true, bank := #v[5, 0, 0x21, 0, 0, 0, 0, 0] }) =
      some (.m4 { m4 with
        target := 2, chrInv := true, bank := #v[5, 0, 0x21, 0, 0, 0, 0, 0]
        chrOff := #v[0x8400, 0, 0, 0, 0x1000, 0x1400, 0, 0x400] }) := by decide

theorem test_m4_reads :
    respOf (.m4CpuRead 0x3FFF)
        (block4 { m4 with prgOff := #v[0x06000, 0x0A000, 0x1C000, 0x1E000] }) = at_ .prg 0x0BFFF ∧
    respOf (.m4CpuRead 0x7FFC) (block4 m4) = at_ .prg 0x1FFFC ∧
    respOf (.m4PpuRead 0x13FF)
        (block4 { m4 with chrOff := #v[0x1000, 0x1400, 0, 0x400, 0x8400, 0, 0, 0] }) =
      at_ .chr 0x087FF ∧
    respOf (.m4PpuRead 0x1000)
        (block (.m4 { m4 with chrOff := #v[0, 0, 0, 0, 0x8400, 0, 0, 0] }) 8 0) = at_ .chr 0x400 := by
  decide

theorem test_m4_writes_without_effect :
    respOf (.m4PpuWrite 0 1) (block (.m4 m4) 8 0) = some (.write .notClaimed) ∧
    stateOf .m4RamProtect (block4 m4) = some ((block4 m4).answer (.write .notClaimed)) := by decide

theorem test_m4_mirror :
    mapOf (.m4Mirror false) (block4 m4) = some (.m4 { m4 with mirror := .vertical }) ∧
    mapOf (.m4Mirror true) (block4 { m4 with mirror := .vertical }) = some (.m4 m4) ∧
    respOf .m4MirrorQ (block4 { m4 with mirror := .vertical }) = some (.mirror .vertical) := by decide

theorem test_m4_irq_registers :
    mapOf (.m4IrqLatch 5) (block4 m4) = some (.m4 { m4 with irqReload := 5 }) ∧
    mapOf .m4IrqReload (block4 { m4 with irqCounter := 9 }) = some (.m4 m4) ∧
    mapOf .m4IrqDisable (block4 { m4 with irqEnable := true, irqActive := true, irqCounter := 9 }) =
      some (.m4 { m4 with irqCounter := 9 }) ∧
    mapOf .m4IrqEnable (block4 m4) = some (.m4 { m4 with irqEnable := true }) := by decide

/-- Rule R250's first, second and sixth calls. -/
theorem test_m4Scanline :
    mapOf .m4Scanline (block4 { m4 with irqReload := 5, irqEnable := true }) =
      some (.m4 { m4 with irqReload := 5, irqCounter := 5, irqEnable := true }) ∧
    mapOf .m4Scanline (block4 { m4 with irqReload := 5, irqCounter := 5, irqEnable := true }) =
      some (.m4 { m4 with irqReload := 5, irqCounter := 4, irqEnable := true }) ∧
    mapOf .m4Scanline (block4 { m4 with irqReload := 5, irqCounter := 1, irqEnable := true }) =
      some (.m4 { m4 with irqReload := 5, irqEnable := true, irqActive := true }) := by decide

/-- "`M4IRQ #0`": the request is raised on every call; disabled, never. -/
theorem test_m4Scanline_reload_zero :
    mapOf .m4Scanline (block4 { m4 with irqEnable := true }) =
      some (.m4 { m4 with irqEnable := true, irqActive := true }) ∧
    mapOf .m4Scanline (block4 m4) = some (.m4 m4) := by decide

theorem test_m4_poll_and_clear :
    respOf .m4IrqState (block4 { m4 with irqActive := true }) = some (.irq true) ∧
    mapOf .m4IrqState (block4 { m4 with irqActive := true }) = some (.m4 { m4 with irqActive := true }) ∧
    mapOf .m4IrqClear (block4 { m4 with irqActive := true, irqEnable := true, irqReload := 5 }) =
      some (.m4 { m4 with irqEnable := true, irqReload := 5 }) := by decide

theorem test_m4Sram :
    stateOf (.m4SramWrite 0x1FFF 0xCD) (block4 m4) =
      some { block4 m4 with
        sramState := some [(0x1FFF, 0xCD)]
        out := { Outputs.quiet (.write .internalWrite) with ramWritten := true } } ∧
    respOf (.m4SramRead 0x1FFF) ((block4 m4).setSram [(0x1FFF, 0xCD)]) =
      some (.read (.internalRead 0xCD) (some 0xCD)) := by decide

/-! ### Mapper 9 (vectors of section 2.9 and the trace of rule R268) -/

/-- Mapper 9 with the four CHR registers of rule R268's worked example. -/
def m9 (latch0 latch1 : Latch) : M9State :=
  { prgSel := 0, chrFd0 := 2, chrFe0 := 4, chrFd1 := 6, chrFe1 := 8, latch0 := latch0,
    latch1 := latch1, mirror := .vertical }

/-- A block with mapper 9, eight PRG banks and sixteen CHR banks. -/
def block9 (r : M9State) : State := block (.m9 r) 8 16

theorem test_m9CpuRead :
    respOf (.m9CpuRead 0x2000) (block9 (m9 .fd .fd)) = at_ .prg 0x1A000 ∧
    respOf (.m9CpuRead 0x1FFF) (block9 { m9 .fd .fd with prgSel := 5 }) = at_ .prg 0x0BFFF ∧
    respOf (.m9CpuRead 0) (block (.m9 { m9 .fd .fd with prgSel := 15 }) 4 16) = at_ .prg 0x0E000 ∧
    respOf (.m9CpuRead 0x2000) (block (.m9 (m9 .fd .fd)) 1 16) = at_ .prg 0x2000 ∧
    respOf (.m9CpuRead 0x4000) (block (.m9 (m9 .fd .fd)) 1 16) = at_ .prg 0 := by decide

theorem test_m9_registers :
    mapOf (.m9PrgSelect 5) (block9 (m9 .fe .fe)) = some (.m9 { m9 .fe .fe with prgSel := 5 }) ∧
    mapOf (.m9ChrFd0 1) (block9 (m9 .fe .fe)) = some (.m9 { m9 .fe .fe with chrFd0 := 1 }) ∧
    mapOf (.m9ChrFe0 1) (block9 (m9 .fe .fe)) = some (.m9 { m9 .fe .fe with chrFe0 := 1 }) ∧
    mapOf (.m9ChrFd1 1) (block9 (m9 .fe .fe)) = some (.m9 { m9 .fe .fe with chrFd1 := 1 }) ∧
    mapOf (.m9ChrFe1 1) (block9 (m9 .fe .fe)) = some (.m9 { m9 .fe .fe with chrFe1 := 1 }) ∧
    mapOf (.m9Mirror true) (block9 (m9 .fe .fe)) = some (.m9 { m9 .fe .fe with mirror := .horizontal }) ∧
    stateOf .m9NopWrite (block9 (m9 .fe .fe)) = some ((block9 (m9 .fe .fe)).answer (.write .notClaimed)) := by
  decide

/-- Rows 2, 5, 7 and 8 of the trace, and row 9: the read is served by the old latch. -/
theorem test_m9_latch_reads :
    respOf (.m9PpuReadFd0 8) (block9 (m9 .fe .fe)) = at_ .chr 0x04FD8 ∧
    mapOf (.m9PpuReadFd0 8) (block9 (m9 .fe .fe)) = some (.m9 (m9 .fd .fe)) ∧
    respOf (.m9PpuReadFd1 0) (block9 (m9 .fd .fe)) = at_ .chr 0x08FD0 ∧
    mapOf (.m9PpuReadFd1 0) (block9 (m9 .fd .fe)) = some (.m9 (m9 .fd .fd)) ∧
    respOf (.m9PpuReadFe1 15) (block9 (m9 .fd .fd)) = at_ .chr 0x06FEF ∧
    mapOf (.m9PpuReadFe1 15) (block9 (m9 .fd .fd)) = some (.m9 (m9 .fd .fe)) ∧
    respOf (.m9PpuReadFe0 0) (block9 (m9 .fd .fe)) = at_ .chr 0x02FE0 ∧
    mapOf (.m9PpuReadFe0 0) (block9 (m9 .fd .fe)) = some (.m9 (m9 .fe .fe)) := by decide

/-- The trace's reads outside the ranges, the edges 0x0FCF and 0x0FF0 among them. -/
theorem test_m9PpuRead :
    respOf (.m9PpuRead 0x0FF0) (block9 (m9 .fe .fe)) = at_ .chr 0x04FF0 ∧
    respOf (.m9PpuRead 0x1000) (block9 (m9 .fd .fd)) = at_ .chr 0x06000 ∧
    mapOf (.m9PpuRead 0x0FF0) (block9 (m9 .fd .fe)) = some (.m9 (m9 .fd .fe)) ∧
    mapOf (.m9PpuRead 0x0FCF) (block9 (m9 .fe .fe)) = some (.m9 (m9 .fe .fe)) := by decide

theorem test_m9PpuWrite :
    stateOf (.m9PpuWrite 0x0FD0 0) (block9 (m9 .fe .fe)) =
      some ((block9 (m9 .fe .fe)).answer (.write .notClaimed)) := by decide

theorem test_m9_events :
    mapOf .m9Reset (blockUnder (.m9 (m9 .fd .fd)) { banks .m9 8 16 with latchReset0 := .fe }) =
      some (.m9 { prgSel := 0, chrFd0 := 0, chrFe0 := 0, chrFd1 := 0, chrFe1 := 0, latch0 := .fe,
                  latch1 := .fd, mirror := .vertical }) ∧
    respOf .m9MirrorQ (block9 (m9 .fd .fd)) = some (.mirror .vertical) ∧
    respOf .m9IrqState (block9 (m9 .fd .fd)) = some (.irq false) ∧
    stateOf .m9Scanline (block9 (m9 .fd .fd)) = some (block9 (m9 .fd .fd)) ∧
    stateOf .m9IrqClear (block9 (m9 .fd .fd)) = some (block9 (m9 .fd .fd)) := by decide

/-! ### APU register writes (vectors of section 2.2) -/

theorem test_env_writes :
    apuOf (.apuP1Env 0 true true 15) State.reset =
      some { ApuState.reset with
        haltP1 := true, envP1 := { Envelope.reset with disable := true, volume := 15 } } ∧
    apuOf (.apuP2Env 3 false true 5) State.reset =
      some { ApuState.reset with envP2 := { Envelope.reset with disable := true, volume := 5 } } ∧
    apuOf (.apuNoiEnv false false 7) State.reset =
      some { ApuState.reset with envN := { Envelope.reset with volume := 7 } } := by decide

theorem test_length_writes :
    apuOf (.apuP1Len 31 0) State.reset =
      some { ApuState.reset with lenP1 := 30, envP1 := { Envelope.reset with start := true } } ∧
    apuOf (.apuP2Len 1 0) State.reset =
      some { ApuState.reset with lenP2 := 254, envP2 := { Envelope.reset with start := true } } ∧
    apuOf (.apuTriLen 3 7) State.reset =
      some { ApuState.reset with lenT := 2, linReloadFlag := true } ∧
    apuOf (.apuNoiLen 31) State.reset =
      some { ApuState.reset with lenN := 30, envN := { Envelope.reset with start := true } } := by decide

theorem test_linear_status_and_dmc :
    apuOf (.apuTriLinear true 127) State.reset =
      some { ApuState.reset with haltT := true, linReload := 127 } ∧
    apuOf (.apuStatus false true true true true) State.reset =
      some { ApuState.reset with enP1 := true, enP2 := true, enT := true, enN := true } ∧
    apuOf (.apuStatus true false false false false) State.reset =
      some { ApuState.reset with enDmc := true } ∧
    apuOf (.apuDmc0 0x4F) State.reset = some { ApuState.reset with dmcReg := #v[0x4F, 0, 0, 0] } ∧
    apuOf (.apuDmc1 2) State.reset = some { ApuState.reset with dmcReg := #v[0, 2, 0, 0] } ∧
    apuOf (.apuDmc2 3) State.reset = some { ApuState.reset with dmcReg := #v[0, 0, 3, 0] } ∧
    apuOf (.apuDmc3 1) State.reset = some { ApuState.reset with dmcReg := #v[0, 0, 0, 1] } := by decide

theorem test_writes_without_effect :
    apuOf (.apuFrame 0xC0) State.reset = some ApuState.reset ∧
    apuOf (.apuUnused4009 0xFF) State.reset = some ApuState.reset ∧
    apuOf (.apuUnused400d 0xFF) State.reset = some ApuState.reset ∧
    apuOf (.apuP1Tlo 0xFD) State.reset = some ApuState.reset ∧
    apuOf (.apuP2Tlo 0xFD) State.reset = some ApuState.reset ∧
    apuOf (.apuTriTlo 0xFD) State.reset = some ApuState.reset ∧
    apuOf (.apuNoiPeriod 0x8F) State.reset = some ApuState.reset := by decide

/-- No state of the block changes, the bytes reach the units in the order written. -/
theorem test_sweep_writes :
    stateOf (.apuP1Sweep 8) { State.reset with inbox := ⟨[0x88], []⟩ } =
      some ({ State.reset with inbox := ⟨[0x88, 8], []⟩ }.answer (.write .notClaimed)) ∧
    stateOf (.apuP2Sweep 0x88) State.reset =
      some ({ State.reset with inbox := ⟨[], [0x88]⟩ }.answer (.write .notClaimed)) := by decide

/-- Item 4 of the source's testable properties. -/
theorem test_sweep_mute :
    sweepMute 7 = true ∧ sweepMute 8 = false ∧ sweepMute 0x7FF = false ∧ sweepMute 0x800 = true := by
  decide

/-- The flag that leaves the block follows the reload values beside any operation, with no half-frame
clock between. -/
theorem test_sweep_mute_follows_the_timers :
    (stepOf (State.reset.setPending [⟨0x1401200#27, { Side.reset with reloadP1 := 7, reloadP2 := 0x800 }⟩])).map
      (fun u => (u.sweepMuted .p1, u.sweepMuted .p2)) = some (true, true) ∧
    (stepOf (State.reset.setPending [⟨0x5000000#27, { Side.reset with reloadP1 := 8, reloadP2 := 0x7FF }⟩])).map
      (fun u => (u.sweepMuted .p1, u.sweepMuted .p2)) = some (false, false) := by decide

/-- `ApuReset` leaves the units' own bits false whatever the timers outside the block hold. -/
theorem test_apuReset_with_timers_out_of_range :
    (stateOf .apuReset { State.reset with
        apu := { ApuState.reset with sweepP1 := { sweepReset with mute := true } }
        inbox := ⟨[1], [2]⟩
        side := { Side.reset with reloadP1 := 7 } }).map (fun u => (u.apu, u.inbox)) =
      some (ApuState.reset, SweepInbox.empty) := by decide

theorem test_apuReset :
    apuOf .apuReset (withApu { ApuState.reset with fc := 9, lenP1 := 3, haltT := true }) =
      some ApuState.reset := by decide

/-! ### The frame sequencer and the clocked units (vectors of sections 2.1 and 2.2) -/

theorem test_sysTick :
    (apuOf .sysTick State.reset).map (fun a => (a.tick, a.fc)) = some (1, 1) ∧
    (apuOf .sysTick (withApu { ApuState.reset with tick := 1, fc := 1 })).map (fun a => (a.tick, a.fc)) =
      some (2, 1) ∧
    (apuOf .sysTick (withApu { ApuState.reset with
        tick := 22368, fc := 3728, linReload := 3, linReloadFlag := true })).map (fun a => (a.tick, a.fc, a.linCounter)) =
      some (22369, 3729, 3) := by decide

theorem test_apuTick :
    (apuOf .apuTick (withApu { ApuState.reset with fc := 14914, enP1 := true, lenP1 := 30 })).map
      (fun a => (a.fc, a.lenP1)) = some (14915, 30) ∧
    (apuOf .apuTick (withApu { ApuState.reset with fc := 14915, enP1 := true, lenP1 := 30 })).map
      (fun a => (a.fc, a.lenP1)) = some (0, 29) ∧
    (apuOf .apuTick (withApu { ApuState.reset with fc := 3728, enP1 := true, lenP1 := 30 })).map
      (fun a => (a.fc, a.lenP1)) = some (3729, 30) ∧
    (apuOf .apuTick (withApu { ApuState.reset with fc := 7456, enP1 := true, lenP1 := 30 })).map
      (fun a => (a.fc, a.lenP1)) = some (7457, 29) := by decide

/-- Rows 3, 4, 5 and 6 of the envelope table. -/
theorem test_envelope_clock :
    Envelope.clock ⟨false, false, 5, 0, 0⟩ true = ⟨false, false, 5, 5, 15⟩ ∧
    Envelope.clock ⟨false, false, 5, 0, 0⟩ false = ⟨false, false, 5, 5, 0⟩ ∧
    Envelope.clock ⟨false, false, 9, 3, 7⟩ true = ⟨false, false, 9, 2, 7⟩ ∧
    Envelope.clock ⟨true, false, 9, 3, 7⟩ false = ⟨false, false, 9, 9, 15⟩ := by decide

theorem test_apuQuarter :
    apuOf .apuQuarter (withApu { ApuState.reset with
        haltP1 := true, envP1 := ⟨false, false, 5, 0, 0⟩, envP2 := ⟨false, false, 5, 0, 0⟩
        linReload := 3, linReloadFlag := true }) =
      some { ApuState.reset with
        haltP1 := true, envP1 := ⟨false, false, 5, 5, 15⟩, envP2 := ⟨false, false, 5, 5, 0⟩
        linReload := 3, linCounter := 3 } ∧
    (apuOf .apuQuarter (withApu { ApuState.reset with
        haltT := true, linReload := 3, linReloadFlag := true })).map (fun a => (a.linCounter, a.linReloadFlag)) = some (3, true) ∧
    (apuOf .apuQuarter (withApu { ApuState.reset with linReload := 3, linCounter := 2 })).map
      (fun a => a.linCounter) = some 1 := by decide

theorem test_apuHalf :
    (apuOf .apuHalf (withApu { ApuState.reset with
        enP1 := true, enP2 := true, enT := true, enN := true
        lenP1 := 254, lenP2 := 0, lenT := 10, lenN := 30, haltN := true })).map
      (fun a => (a.lenP1, a.lenP2, a.lenT, a.lenN)) = some (253, 0, 9, 30) ∧
    (apuOf .apuHalf (withApu { ApuState.reset with lenP1 := 251, haltP1 := true })).map
      (fun a => a.lenP1) = some 0 := by decide

/-! ### The mixer (vectors of section 2.3) -/

/-- A block with the mixer's operands, nothing muted. -/
def mixing (p1 p2 t n : Rat) : State :=
  State.reset.setSide { Side.reset with mix := ⟨p1, p2, t, n, true, true, true, true⟩ }

theorem test_apuMix :
    respOf .apuMix (mixing 0 0 0 0) = some (.sample (.real 0)) ∧
    respOf .apuMix (mixing 15 15 15 15) =
      some (.sample (.real (2309773763793 / 365579022874))) := by decide +kernel

theorem test_apuMix_muted :
    respOf .apuMix (State.reset.setSide { Side.reset with
        mix := ⟨15, 15, 15, 15, true, false, true, false⟩ }) =
      some (.sample (.real (92665608 / 23412889))) := by decide +kernel

/-! ### A step -/


/-- The word of `M4.MIRROR` placed by `withFetchWord` runs as the first operation after reset. -/
theorem test_withFetchWord :
    stepOf (State.reset.withFetchWord 32 0x1A00000) = stateOf (.m4Mirror false) State.reset ∧
    stepOf (State.reset.withFetchWord 32 0x1401500) =
      stateOf (.apuStatus false false false false false) State.reset ∧
    (stepOf ((block (.m2 ⟨5⟩) 8 0).withFetchWord 32 0x1A00000)).map State.mapperId = some .m4 := by
  decide

/-- Rule R6: one block read at $FFFC under two configurations, with one PRG bank and with two (rule R182),
with other bytes in `PRG`, and with a mapper that the block has not: the answer follows the argument. -/
theorem test_blockStep_takes_its_configuration :
    respUnder (banks .m0 1 1) = at_ .prg 0x3FFC ∧
    respUnder { banks .m0 2 1 with prg := [(0x7FFC, 0x4C)] } =
      some (.read (.offset .prg 0x7FFC) (some 0x4C)) ∧
    respUnder (banks .m3 1 1) = none ∧ respUnder { banks .m0 1 1 with prg := [(0x3FFC, 1)] } =
      some (.read (.offset .prg 0x3FFC) (some 1)) := by decide

/-- Rule R20: which arrays are state under a configuration. -/
theorem test_what_is_state :
    Block.reset { banks .m4 1 1 with sramInit := [(3, 7)] } =
      ⟨.m4 (M4State.reset 1), some [(3, 7)], none, none, ApuState.reset⟩ ∧
    Block.reset { banks .m2 1 0 with prgWritable := true, prg := [(0, 1)] } =
      ⟨.m2 ⟨0⟩, none, some [], some [(0, 1)], ApuState.reset⟩ := by decide

/-- Rule R160's pairs on the reset cartridge: every offset below 0x8000, the sentinel at it. -/
theorem test_asPair :
    (MapResult.offset .prg 0x3FFF).asPair resetCfg = (true, 0x3FFF) ∧
    (MapResult.internalRead 5).asPair resetCfg = (true, 0x8000) ∧
    MapResult.notClaimed.asPair resetCfg = (false, 0) := by decide

/-- The refusals of rule R281, each of the four conditions of its table. -/
theorem test_construct_refuses :
    checkCartridge ⟨5, resetCfg.toParams, [], [], []⟩ = .error (.unsupportedMapper 5) ∧
    checkCartridge ⟨1, { resetCfg.toParams with prgBanks := 32 }, [], [], []⟩ = .error .unsupportedLargeMmc1 ∧
    checkCartridge ⟨2, { resetCfg.toParams with prgBanks := 0 }, [], [], []⟩ = .error .invalidConfig ∧
    checkCartridge ⟨2, resetCfg.toParams, [], [], []⟩ = .error .invalidConfig := by decide


/-! ### Witnesses: for each statement with hypotheses, states and operands that meet them -/

/-- The block `s` with one operation issued, without operands beside the word. -/
def issued (word : Tw) (s : State) : State := s.setPending [⟨word, Side.reset⟩]

theorem test_witness_DecodeOfEncode :
    (Instr.m9PpuRead 0x0FF0).wellFormed = true ∧ (Instr.m9PpuRead 0x0FF0).mapper = some .m9 ∧
    (Instr.apuNoiLen 31).wellFormed = true ∧ (Instr.apuNoiLen 31).mapper = none := by decide

theorem test_witness_DecodedOperands :
    decode .m9 0x20FD800#27 = .ok (.m9PpuReadFd0 8) ∧
    decode .m1 0x1FFFF7F#27 = .ok (.m1SerialShift 1 3) := by decide

theorem test_witness_OnlyLatchRowsOverlap :
    ∃ r ∈ mapperRows .m9 ++ apuRows, ∃ r' ∈ mapperRows .m9 ++ apuRows, r ≠ r' ∧
      r.matchesWord 0x20FD800#27 = true ∧ r'.matchesWord 0x20FD800#27 = true := by decide

theorem test_witness_StepRuns :
    (issued 0x1A00001#27 State.reset).pending = ⟨0x1A00001#27, Side.reset⟩ :: [] ∧
    decode (issued 0x1A00001#27 State.reset).mapperId 0x1A00001#27 = .ok (.m4Mirror true) := by decide

/-- Both clauses, at the edges of the accesses no mapper owns. -/
theorem test_witness_UnownedAccess :
    isUnowned .m4 0x05FFF00#27 = true ∧ isUnowned .m4 0x0600000#27 = false ∧
    isUnowned .m2 0x07FFF00#27 = true ∧ isUnowned .m2 0x0800000#27 = false ∧
    isUnowned .m0 0x2200000#27 = true ∧ isUnowned .m0 0x21FFF00#27 = false ∧
    isUnowned .m9 0x3FFFF00#27 = true ∧
    isUnowned .m4 0x1401400#27 = true ∧ isApuAddr 0x4014 = false ∧
    isUnowned .m4 0x14015FF#27 = true ∧ isApuAddr 0x4015 = true ∧ isApuAddr 0x4016 = false := by decide

theorem test_witness_UnownedAccess_runs :
    stepOf (issued 0x07FFF00#27 (block (.m2 ⟨5⟩) 8 0)) =
      some (answered (taken (block (.m2 ⟨5⟩) 8 0) ⟨0x07FFF00#27, Side.reset⟩ []) .notClaimed) ∧
    stepOf (issued 0x140151F#27 (block (.m2 ⟨5⟩) 8 0)) =
      some (apuIs (taken (block (.m2 ⟨5⟩) 8 0) ⟨0x140151F#27, Side.reset⟩ [])
        { ApuState.reset with enP1 := true, enP2 := true, enT := true, enN := true, enDmc := true }) := by
  decide

theorem test_witness_NoOperation :
    State.reset.pending = [] ∧
    5 ≤ (Tw.kind 0x5000000#27).toNat ∧ 5 ≤ (Tw.kind 0x7FFFFFF#27).toNat ∧
    (Tw.kind 0x400000B#27).toNat = 4 ∧ 11 ≤ (Tw.data 0x400000B#27).toNat ∧
    (Tw.kind 0x4000100#27).toNat = 4 ∧ Tw.addr 0x4000100#27 ≠ 0#16 := by decide

theorem test_witness_EveryStep :
    State.reset.map.id = State.reset.mapperId ∧ (block9 (m9 .fd .fd)).map.id = (block9 (m9 .fd .fd)).mapperId := by
  decide

/-- A block with mapper 0, CHR RAM, and a PPU write issued. -/
def writing : State := issued 0x3123455#27 (block .m0 1 0)

theorem writing_inv : writing.Inv :=
  ⟨by decide, by decide, by decide, by decide, by decide, fun _ => by decide, by decide, by decide, by decide⟩

/-- The step from a state that meets the invariant, and an answered offset inside its array. -/
theorem test_witness_StepKeeps_and_AnsweredOffsets :
    ∃ t, writing.Inv ∧ writing.pending ≠ [] ∧ step writing = .next t ∧
      t.out.resp = .write (.offset .chr 0x1234) := ⟨_, writing_inv, by decide, rfl, by decide⟩

theorem test_witness_AnsweredOffsets_read :
    ∃ t, (issued 0x0FFFC00#27 (block .m0 1 0)).Inv ∧
      step (issued 0x0FFFC00#27 (block .m0 1 0)) = .next t ∧
      t.out.resp = .read (.offset .prg 0x3FFC) (some 0) :=
  ⟨_, ⟨by decide, by decide, by decide, by decide, by decide, fun _ => by decide, by decide, by decide, by decide⟩, rfl, by decide⟩

/-- A cartridge with one PRG bank, CHR RAM and no saved RAM, filled with one byte. -/
def cartridge (mapperID prgBanks : Nat) (fill : Byte) : Cartridge where
  mapperID := mapperID
  params := { resetCfg.toParams with prgBanks := prgBanks }
  prg := List.replicate (prgBanks * 0x4000) fill
  chr := List.replicate 0x2000 fill
  sramInit := [fill]

theorem construct_accepts {c : Cartridge} {m : MapperId} (hm : MapperId.ofNumber c.mapperID = some m)
    (h0 : c.params.prgBanks ≠ 0) (h1 : ¬ (m = .m1 ∧ c.params.prgBanks > mmc1MaxPrgBanks))
    (hp : c.prg.length = c.params.prgSize) (hc : c.chr.length = c.params.chrSize) :
    ∃ s, construct c = .ok s := by
  simp only [construct, checkCartridge, hm, if_neg h0, if_neg h1, hp, hc, ne_eq, not_true_eq_false, or_self,
    if_false]
  exact ⟨_, rfl⟩

/-- Accepted cartridges: one PRG bank on mapper 0, the sixteenth on mapper 1. -/
theorem test_witness_Construction :
    (∃ s, construct (cartridge 0 1 0xEA) = .ok s) ∧ (∃ s, construct (cartridge 1 16 0xEA) = .ok s) :=
  ⟨construct_accepts (m := .m0) rfl (by decide) (by decide) List.length_replicate List.length_replicate,
    construct_accepts (m := .m1) rfl (by decide) (by decide) List.length_replicate List.length_replicate⟩

/-- The bytes the array clauses of the construction ask for, first and last. -/
theorem test_witness_ConstructedState :
    (cartridge 0 1 0xEA).prg[0]? = some 0xEA ∧ (cartridge 0 1 0xEA).prg[0x3FFF]? = some 0xEA ∧
    (cartridge 0 1 0xEA).params.chrBanks = 0 ∧ (cartridge 0 1 0xEA).sramInit[0]? = some 0xEA := by
  refine ⟨?_, ?_, rfl, rfl⟩ <;> simp [-List.reduceReplicate, cartridge]

/-- The same with CHR ROM: one bank of 8 KiB. -/
theorem test_witness_ConstructedState_chr_rom :
    (∃ s, construct { cartridge 3 1 0xEA with params := { resetCfg.toParams with chrBanks := 1 } } = .ok s) ∧
    (cartridge 3 1 0xEA).chr[0x1FFF]? = some 0xEA := by
  refine ⟨construct_accepts (m := .m3) rfl (by decide) (by decide) List.length_replicate
    List.length_replicate, ?_⟩
  simp [-List.reduceReplicate, cartridge]

/-- Each clause of the refusals. -/
theorem test_witness_RefusedCartridges :
    (cartridge 5 1 0).mapperID ∉ [0, 1, 2, 3, 4, 9] ∧
    ((cartridge 9 0 0).mapperID ∈ [0, 1, 2, 3, 4, 9] ∧ (cartridge 9 0 0).params.prgBanks = 0) ∧
    ((cartridge 1 17 0).mapperID = 1 ∧ (cartridge 1 17 0).params.prgBanks > 16) ∧
    ({ cartridge 1 16 0 with prg := [] }.prg.length ≠ (cartridge 1 16 0).params.prgBanks * 0x4000 ∧
      ¬ ((cartridge 1 16 0).mapperID = 1 ∧ (cartridge 1 16 0).params.prgBanks > 16)) ∧
    (1 ≤ (cartridge 2 1 0).params.prgBanks ∧ (cartridge 2 1 0).prg.length = 1 * 0x4000 ∧
      (cartridge 2 1 0).chr.length = max 0 1 * 0x2000) := by
  refine ⟨by decide, by decide, by decide, ⟨by simp [-List.reduceReplicate, cartridge, resetCfg], by decide⟩, by decide, ?_, ?_⟩ <;>
    simp [-List.reduceReplicate, cartridge]

theorem test_witness_ConfigurationNeverChanges :
    (∃ t, step (issued 0x4000000#27 State.reset) = .next t) ∧
    ∃ t, exec .m4Reset State.reset = .next t := ⟨⟨_, rfl⟩, _, rfl⟩

theorem test_witness_MapperAndApuShareNoState :
    (∃ t, exec .apuReset State.reset = .next t) ∧ Instr.apuReset.mapper = none ∧
    (∃ t, exec .m4Reset State.reset = .next t) ∧ Instr.m4Reset.mapper = some .m4 :=
  ⟨⟨_, rfl⟩, rfl, ⟨_, rfl⟩, rfl⟩

/-- A CPU read, and PPU reads of mapper 9 beside and inside a range, and in the other window. -/
theorem test_witness_ReadsHaveNoOtherSideEffect :
    (∃ u, step (issued 0x0800000#27 (block9 (m9 .fe .fe))) = .next u) ∧ Tw.kind 0x0800000#27 = 0#3 ∧
    (∃ u, step (issued 0x20FCF00#27 (block9 (m9 .fe .fe))) = .next u) ∧ Tw.kind 0x20FCF00#27 = 2#3 ∧
    ¬ (0x0FD0 ≤ (Tw.addr 0x20FCF00#27).toNat ∧ (Tw.addr 0x20FCF00#27).toNat ≤ 0x0FEF) ∧
    ¬ (0x0FD0 ≤ (Tw.addr 0x20FF000#27).toNat ∧ (Tw.addr 0x20FF000#27).toNat ≤ 0x0FEF) ∧
    (stepOf (issued 0x20FD000#27 (block9 (m9 .fe .fe)))).map (fun t => t.map) = some (.m9 (m9 .fd .fe)) ∧
    (stepOf (issued 0x21FD000#27 (block9 (m9 .fe .fe)))).map (fun t => t.map) = some (.m9 (m9 .fe .fd)) ∧
    (Tw.addr 0x20FFF00#27).toNat < 0x1000 ∧ 0x1000 ≤ (Tw.addr 0x2100000#27).toNat :=
  ⟨⟨_, rfl⟩, by decide, ⟨_, rfl⟩, by decide, by decide, by decide, by decide, by decide, by decide,
    by decide⟩

/-- A mapper 0 whose PRG the write path reaches. -/
def writable : State := blockUnder .m0 { banks .m0 1 0 with prgWritable := true }

theorem test_witness_PrgIsWritten :
    ∃ u, step (issued 0x1800012#27 writable) = .next u ∧ u.prg ≠ writable.prg := ⟨_, rfl, by decide⟩

theorem test_witness_SramIsWritten :
    Memory.wf (block4 m4).sram = true ∧
    (∃ u, step (issued 0x17FFFCD#27 (block4 m4)) = .next u ∧ u.sram ≠ (block4 m4).sram) ∧
    ∃ u, step (issued 0x1600001#27 (block (m1 0x1C 0 0 0) 8 16)) = .next u ∧ u.sram = [(0, 1)] :=
  ⟨rfl, ⟨_, rfl, by decide⟩, ⟨_, rfl, by decide⟩⟩

theorem test_witness_ChrIsWritten :
    Memory.wf writing.chr = true ∧ ∃ u, step writing = .next u ∧ u.chr ≠ writing.chr :=
  ⟨rfl, _, rfl, by decide⟩

theorem test_witness_LatchedOffsets :
    ∃ u r', (block4 m4).map = .m4 m4 ∧ step (issued 0x1800103#27 (block4 m4)) = .next u ∧
      u.map = .m4 r' ∧ (r'.chrOff ≠ m4.chrOff ∨ r'.prgOff ≠ m4.prgOff) :=
  ⟨_, _, rfl, rfl, rfl, by decide⟩

theorem test_witness_RequestRises :
    ∃ u r', (block4 { m4 with irqEnable := true }).map = .m4 { m4 with irqEnable := true } ∧
      step (issued 0x4000001#27 (block4 { m4 with irqEnable := true })) = .next u ∧ u.map = .m4 r' ∧
      m4.irqActive = false ∧ r'.irqActive = true := ⟨_, _, rfl, rfl, rfl, by decide⟩

theorem test_witness_RequestFalls :
    (stepOf (issued 0x4000003#27 (block4 { m4 with irqActive := true }))).map (fun t => t.map) = some (.m4 m4) ∧
    (stepOf (issued 0x1E00000#27 (block4 { m4 with irqActive := true }))).map (fun t => t.map) = some (.m4 m4) ∧
    (stepOf (issued 0x4000000#27 (block4 { m4 with irqActive := true }))).map (fun t => t.map) = some (.m4 m4) := by
  decide

theorem test_witness_ArraysAlike :
    Memory.wf (Memory.write (Memory.write [] 7 1) 3 2) = true ∧ Memory.wf [(3, 2), (7, 1)] = true ∧
    ∀ a, Memory.read (Memory.write (Memory.write [] 7 1) 3 2) a = Memory.read [(3, 2), (7, 1)] a :=
  ⟨by decide, by decide, fun _ => rfl⟩

theorem test_witness_FixedWindows_and_MapperZeroWrite :
    1 ≤ (block .m0 1 1).cfg.prgBanks ∧ (block .m0 1 1).map = .m0 ∧
    (block (.m3 ⟨1⟩) 2 4).map = .m3 ⟨1⟩ ∧ (block (.m2 ⟨7⟩) 5 1).map = .m2 ⟨7⟩ ∧
    Memory.wf writable.prg = true ∧ writable.map = .m0 ∧ 1 ≤ writable.cfg.prgBanks ∧
    writable.cfg.prgWritable = true ∧ (block .m0 1 1).cfg.prgWritable = false := by decide

/-- Mapper 2's windows meet at $C000, mapper 3's banks at the end of CHR. -/
theorem test_witness_MapperTwoAndThreeBanks :
    respOf (.m2CpuRead 0x3FFF) (block (.m2 ⟨7⟩) 5 1) = at_ .prg 0x0BFFF ∧
    respOf (.m2CpuRead 0x4000) (block (.m2 ⟨7⟩) 5 1) = at_ .prg 0x10000 ∧
    respOf (.m3PpuRead 0) (block (.m3 ⟨2⟩) 1 2) = at_ .chr 0 := by decide

/-- Each of the six forms, with CHR RAM and CHR ROM. -/
theorem test_witness_PatternWrites :
    Memory.wf (block .m0 1 0).chr = true ∧
    (block .m0 1 0).map.id = .m0 ∧ (block .m0 1 0).cfg.chrBanks = 0 ∧
    (block .m0 1 1).cfg.chrBanks ≠ 0 ∧ (block (m1 0x1C 0 0 0) 1 0).map.id = .m1 ∧
    (block (.m2 ⟨0⟩) 1 0).map.id = .m2 ∧ (block (.m3 ⟨0⟩) 1 0).map.id = .m3 ∧
    (block4 m4).map.id = .m4 ∧ (block9 (m9 .fd .fd)).map.id = .m9 ∧
    (stateOf (.m1PpuWrite 0x1FFF 5) (block (m1 0x1C 0 0 0) 1 0)).map (fun t => t.chr) = some [(0x1FFF, 5)] := by
  decide

/-- A block with each mapper: the hypotheses of the statements on resets, mirroring, scanlines and the
reset vector. -/
theorem test_witness_every_mapper :
    (block .m0 1 1).map.id = .m0 ∧ (block (m1 0x0E 5 0 3) 1 1).map = m1 0x0E 5 0 3 ∧
    (block (.m2 ⟨5⟩) 1 1).map.id = .m2 ∧ (block (.m3 ⟨3⟩) 1 1).map.id = .m3 ∧
    (block4 m4).map = .m4 m4 ∧ (block9 (m9 .fd .fd)).map = .m9 (m9 .fd .fd) ∧
    (block (m1 0x0E 5 0 3) 1 1).map.id = .m1 ∧ (block (m1 0x0E 5 0 3) 1 1).map.id ≠ .m4 ∧
    1 ≤ (block9 (m9 .fd .fd)).cfg.prgBanks := by decide

/-- Rule R304's table, one row of each form: the vector's offset after `Reset`. -/
theorem test_witness_ResetVector :
    (stateOf .m1Reset (block (m1 0 0 0 0) 8 16)).bind (respOf (.m1CpuRead 0x7FFC)) = at_ .prg 0x1FFFC ∧
    (stateOf .m4Reset (block (.m4 m4) 1 1)).bind (respOf (.m4CpuRead 0x7FFC)) = at_ .prg 0x3FFC ∧
    (stateOf .m9Reset (block9 (m9 .fe .fe))).bind (respOf (.m9CpuRead 0x7FFC)) = at_ .prg 0x1FFFC ∧
    (stateOf .m0Reset (block .m0 1 1)).bind (respOf (.m0CpuRead 0x7FFC)) = at_ .prg 0x3FFC := by decide

theorem test_witness_StaticRam :
    (block (m1 0x0E 5 0 3) 8 16).map.id = .m1 ∧ (block4 m4).map.id = .m4 ∧
    Memory.wf (block4 m4).sram = true ∧
    (stateOf (.m1SramWrite 0x1FFF 7) (block (m1 0x0E 5 0 3) 8 16)).map (fun t => t.sram) = some [(0x1FFF, 7)] := by
  decide

/-- Each clause of the serial port: the gate's three candidates on both answers, and the fifth bit. -/
theorem test_witness_SerialPort :
    gateAccepts .literal 10 11 = false ∧ gateAccepts .literal 10 10 = true ∧
    gateAccepts .inverted 10 11 = true ∧ gateAccepts .inverted 10 12 = false ∧
    gateAccepts .all 10 11 = true ∧
    (m1Gate .literal 10 11 3 4).map = .m1 { M1State.reset with sr := 3, cnt := 4, lastStep := 10 } ∧
    (m1Gate .literal 10 11 3 4).side.cpuStep = 11 ∧ M1State.reset.cnt ≠ 4 := by decide

/-- The five bits of 0x0A from an empty loader, on a gate that accepts every write. -/
theorem test_witness_FiveSerialBits :
    (m1Gate .all 0 0 0 0).map = .m1 M1State.reset ∧ M1State.reset.cnt = 0 ∧
    gateAccepts .all 0 1 = true ∧
    (match serialWrites [(1, 0, 3), (2, 1, 3), (3, 0, 3), (4, 1, 3), (5, 0, 0)] (m1Gate .all 0 0 0 0) with
      | .next t => some t.map
      | _ => none) = some (.m1 { M1State.reset with ctrl := 0x0A, lastStep := 5 }) := by decide

/-- The PRG windows end at $BFFF, the CHR windows meet at $1000. -/
theorem test_witness_MapperOneWindows :
    respOf (.m1CpuRead 0x3FFF) (block (m1 0x04 0 0 5) 8 16) = at_ .prg 0x13FFF ∧
    respOf (.m1CpuRead 0x3FFF) (block (m1 0x0C 0 0 5) 8 16) = at_ .prg 0x17FFF ∧
    respOf (.m1PpuRead 0x0FFF) (block (m1 0x1F 3 4 0) 8 16) = at_ .chr 0x3FFF ∧
    respOf (.m1PpuRead 0x1000) (block (m1 0x1F 3 4 0) 8 16) = at_ .chr 0x4000 ∧
    respOf (.m1PpuRead 0x1000) (block (m1 0x1F 3 4 0) 8 0) = at_ .chr 0x1000 := by decide

/-- The hypothesis of mapper 4's statements, and a counter at 0 whose request is up at the third call. -/
theorem test_witness_MapperFour :
    (block4 { m4 with irqReload := 2, irqEnable := true }).map =
      .m4 { m4 with irqReload := 2, irqEnable := true } ∧
    m4.irqCounter.toNat = 0 ∧ m4.irqActive = false ∧
    (match execTimes 3 .m4Scanline (block4 { m4 with irqReload := 2, irqEnable := true }) with
      | .next t => some t.map
      | _ => none) = some (.m4 { m4 with irqReload := 2, irqEnable := true, irqActive := true }) := by
  decide

theorem test_witness_MapperNine :
    (block9 (m9 .fe .fd)).map = .m9 (m9 .fe .fd) ∧ 1 ≤ (block9 (m9 .fe .fd)).cfg.prgBanks ∧
    (0x0FDF#13).toNat = 0x0FD0 + (15#4).toNat ∧ (0x0FE0#13).toNat = 0x0FE0 + (0#4).toNat ∧
    (0x1FDF#13).toNat = 0x1FD0 + (15#4).toNat ∧ (0x1FE0#13).toNat = 0x1FE0 + (0#4).toNat := by decide

/-- Both clauses of the system tick, at the ends of the six. -/
theorem test_witness_SystemTick :
    (withApu { ApuState.reset with tick := 5 }).apu.tick % 6 ≠ 0 ∧
    (withApu { ApuState.reset with tick := 6 }).apu.tick % 6 = 0 := by decide

/-- The three clauses of the APU tick, and what it emits at the last count. -/
theorem test_witness_ApuTick :
    (withApu { ApuState.reset with fc := 3727 }).apu.fc + 1 ∉ [3729, 7457, 11186, 14916] ∧
    (withApu { ApuState.reset with fc := 11185 }).apu.fc + 1 ∈ [3729, 11186] ∧
    (withApu { ApuState.reset with fc := 14915 }).apu.fc + 1 ∈ [7457, 14916] ∧
    (stateOf .apuTick (withApu { ApuState.reset with fc := 14915 })).map
      (fun t => (t.out.quarter, t.out.half, t.out.apuTick)) = some (true, true, false) := by decide

theorem test_witness_Schedule :
    State.reset.apu.tick = 0 ∧ State.reset.apu.fc = 0 ∧
    (match execTimes 7 .sysTick State.reset with
      | .next t => some (t.apu.tick, t.apu.fc, t.out.apuTick)
      | _ => none) = some (7, 2, true) := by decide

/-- Three envelopes at decay 15 with full dividers: after two clocks the first, with volume 1, is at 14. -/
theorem test_witness_EnvelopeDecay :
    (match execTimes 2 .apuQuarter (withApu { ApuState.reset with
        haltP1 := true, envP1 := ⟨false, false, 1, 1, 15⟩, envP2 := ⟨false, false, 0, 0, 15⟩
        envN := ⟨false, false, 2, 2, 15⟩ }) with
      | .next t => some (t.apu.envP1, t.apu.envP2, t.apu.envN)
      | _ => none) =
      some (⟨false, false, 1, 1, 14⟩, ⟨false, false, 0, 0, 13⟩, ⟨false, false, 2, 0, 15⟩) := by decide

/-- Halted, disabled and counting: the three clauses on the length counters. -/
theorem test_witness_LengthCounters :
    (match execTimes 2 .apuHalf (withApu { ApuState.reset with
        enP1 := true, haltP1 := true, lenP1 := 3, lenP2 := 254, enT := true, lenT := 3, enN := true,
        lenN := 1 }) with
      | .next t => some (t.apu.lenP1, t.apu.lenP2, t.apu.lenT, t.apu.lenN)
      | _ => none) = some (3, 0, 1, 0) := by decide

theorem test_witness_MixFollows :
    State.reset.cfg.mixArith = .exact ∧ { resetCfg with mixArith := .implementation }.mixArith = .implementation ∧
    (0 : Rat) ≤ 15 ∧ (mixing 15 0 0 0).side.mix.p1 = 15 := by decide +kernel

/-- The sums of the growth clauses, pulse 1 falling while the sum grows. -/
theorem test_witness_MixIsBounded :
    (0 : Rat) ≤ 1 ∧ (1 : Rat) + 0 < 0 + 2 ∧ (0 : Rat) < 1 ∧
    mixExact mixConstants ⟨1, 0, 0, 0, true, true, true, true⟩ <
      mixExact mixConstants ⟨0, 2, 0, 0, true, true, true, true⟩ := by decide +kernel

/-- An operation with no half-frame event, and one with it: what the units track is presented, or
returned. -/
theorem test_witness_SweepMute :
    (∃ u, step (issued 0x4000005#27 State.reset) = .next u ∧ u.out.reloads = none) ∧
    (∃ u, step (issued 0x4000008#27 State.reset) = .next u ∧ u.out.reloads ≠ none) :=
  ⟨⟨_, rfl, rfl⟩, ⟨_, rfl, by decide⟩⟩

end Sys2Proof.Tests
end

section
/-! PROOFS. The statements of `00_scope.md`. What an operation can do to a state is said once, as
`ExecEffect`; that a step keeps the configuration and that an answered offset is inside its array are
read off it. -/

namespace Sys2Proof.Machine

open Stated

/-! ### The offset in an answer -/

/-- The array and the offset in it that an operation answers, none where it answers no offset (rule
R160). -/
def Response.offset? : Response → Option (Space × Nat)
  | .read (.offset space off) _ => some (space, off)
  | .write (.offset space off) => some (space, off)
  | _ => Option.none

/-- The size of a backing array (rule R6). -/
def Space.size (c : Cfg) : Space → Nat
  | .prg => c.prgSize
  | .chr => c.chrSize

theorem Response.offset?_of_answered {resp : Response} {space : Space} {off : Nat}
    (h : (∃ data, resp = .read (.offset space off) data) ∨ resp = .write (.offset space off)) :
    resp.offset? = some (space, off) := by
  obtain ⟨data, rfl⟩ | rfl := h <;> rfl

/-- No offset of either array is the sentinel (rules R6, R160). -/
theorem Space.offset_ne_sentinel {c : Cfg} {space : Space} {off : Nat} (h : off < space.size c) :
    off ≠ c.sentinel := by
  cases space with
  | prg => exact Machine.offset_ne_sentinel (.inl h)
  | chr => exact Machine.offset_ne_sentinel (.inr (.inl h))

/-! ### What an operation can do -/

/-- What the next state of an operation can be: one constructor for each way the operations share of
changing a state and of answering. -/
inductive ExecEffect (s : State) : State → Prop
  /-- Nothing changes, and no offset is answered. -/
  | answered (resp : Response) (hresp : resp.offset? = none) : ExecEffect s (s.answer resp)
  /-- The mapper's registers change, and no offset is answered. -/
  | registers (map : MapState) (resp : Response) (hid : map.id = s.map.id)
      (hresp : resp.offset? = none) : ExecEffect s ((s.setMap map).answer resp)
  /-- The APU and the bytes handed to its sweep units change, and no offset is answered. -/
  | apu (apu : ApuState) (inbox : SweepInbox) (out : Outputs) (hout : out.resp.offset? = none) :
      ExecEffect s (((s.setApu apu).setInbox inbox).setOut out)
  /-- A read of PRG (rule R163). -/
  | prgRead (raw : Nat) : ExecEffect s (s.finishRead (prgResult s.cfg raw))
  /-- A read of CHR (rule R163). -/
  | chrRead (raw : Nat) : ExecEffect s (s.finishRead (chrResult s.cfg raw))
  /-- A read of CHR that moves a latch (rule R268). -/
  | latchRead (raw : Nat) (map : MapState) (hid : map.id = s.map.id) :
      ExecEffect s ((s.finishRead (chrResult s.cfg raw)).setMap map)
  /-- A read of static RAM (rules R193, R232). -/
  | sramRead (index : BitVec 13) : ExecEffect s (s.sramRead index)
  /-- A write of static RAM (rules R194, R233). -/
  | sramWrite (index : BitVec 13) (value : Byte) : ExecEffect s (s.sramWrite index value)
  /-- A write at a PRG offset (rules R162, R183). -/
  | prgWrite (raw : Nat) (value : Byte) :
      ExecEffect s (s.finishCpuWrite (prgResult s.cfg raw) value)
  /-- A write of CHR, claimed where it is RAM (rules R67, R165). -/
  | chrWrite (within : BitVec 13) (value : Byte) :
      ExecEffect s (s.finishPpuWrite (chrRamResult s.cfg within) value)
  /-- A PPU write that the mapper does not claim (rules R225, R244, R271). -/
  | unclaimedPpuWrite (value : Byte) : ExecEffect s (s.finishPpuWrite .notClaimed value)

section

variable {s t : State}

/-! The operations of a mapper's table run on a block of that mapper alone. -/

theorem onM0_effect {u : State} (h : onM0 s u = .next t) (hu : ExecEffect s u) :
    ExecEffect s t :=
  (onM0_eq_next.1 h).2 ▸ hu

theorem onM1_effect {f : M1State → State} (h : onM1 s f = .next t)
    (hf : ∀ r, MapperId.m1 = s.map.id → ExecEffect s (f r)) : ExecEffect s t := by
  obtain ⟨r, hmap, rfl⟩ := onM1_eq_next.1 h
  exact hf r (hmap ▸ rfl)

theorem onM2_effect {f : M2State → State} (h : onM2 s f = .next t)
    (hf : ∀ r, MapperId.m2 = s.map.id → ExecEffect s (f r)) : ExecEffect s t := by
  obtain ⟨r, hmap, rfl⟩ := onM2_eq_next.1 h
  exact hf r (hmap ▸ rfl)

theorem onM3_effect {f : M3State → State} (h : onM3 s f = .next t)
    (hf : ∀ r, MapperId.m3 = s.map.id → ExecEffect s (f r)) : ExecEffect s t := by
  obtain ⟨r, hmap, rfl⟩ := onM3_eq_next.1 h
  exact hf r (hmap ▸ rfl)

theorem onM4_effect {f : M4State → State} (h : onM4 s f = .next t)
    (hf : ∀ r, MapperId.m4 = s.map.id → ExecEffect s (f r)) : ExecEffect s t := by
  obtain ⟨r, hmap, rfl⟩ := onM4_eq_next.1 h
  exact hf r (hmap ▸ rfl)

theorem onM9_effect {f : M9State → State} (h : onM9 s f = .next t)
    (hf : ∀ r, MapperId.m9 = s.map.id → ExecEffect s (f r)) : ExecEffect s t := by
  obtain ⟨r, hmap, rfl⟩ := onM9_eq_next.1 h
  exact hf r (hmap ▸ rfl)

theorem m4Register_effect {f : M4State → M4State} (h : m4Register s f = .next t) :
    ExecEffect s t :=
  onM4_effect h fun _ hid => .registers _ _ hid rfl

theorem m9Register_effect {f : M9State → M9State} (h : m9Register s f = .next t) :
    ExecEffect s t :=
  onM9_effect h fun _ hid => .registers _ _ hid rfl

theorem m9PpuRead_effect {within : BitVec 13} (h : m9PpuRead s within = .next t) :
    ExecEffect s t :=
  onM9_effect h fun r hid => .latchRead _ (.m9 (r.moveLatch within)) hid

/-! An operation of the APU table runs on every block. -/

theorem next_effect {u : State} (h : (.next u : Result) = .next t) (hu : ExecEffect s u) :
    ExecEffect s t :=
  Host.Outcome.next.inj h ▸ hu

theorem execSysTick_effect (h : execSysTick s = .next t) : ExecEffect s t := by
  unfold execSysTick at h
  split at h
  · exact next_effect h (.apu _ _ (tickOutputs true s) rfl)
  · exact next_effect h (.apu _ _ (Outputs.quiet .none) rfl)

/-- Every instruction does one of the things `ExecEffect` lists. -/
theorem exec_effect {i : Instr} (h : exec i s = .next t) : ExecEffect s t := by
  cases i with
  | m0CpuRead => exact onM0_effect h (.prgRead _)
  | m0CpuWrite => exact onM0_effect h (.prgWrite _ _)
  | m0PpuRead => exact onM0_effect h (.chrRead _)
  | m0PpuWrite => exact onM0_effect h (.chrWrite _ _)
  | m0Reset | m0Scanline | m0IrqClear => exact onM0_effect h (.answered .none rfl)
  | m0MirrorQ => exact onM0_effect h (.answered (.mirror _) rfl)
  | m0IrqState => exact onM0_effect h (.answered (.irq _) rfl)
  | m1SramRead => exact onM1_effect h fun _ _ => .sramRead _
  | m1SramWrite => exact onM1_effect h fun _ _ => .sramWrite _ _
  | m1SerialReset | m1SerialShift => exact onM1_effect h fun _ hid => .registers _ _ hid rfl
  | m1CpuRead => exact onM1_effect h fun _ _ => .prgRead _
  | m1PpuRead => exact onM1_effect h fun _ _ => .chrRead _
  | m1PpuWrite => exact onM1_effect h fun _ _ => .chrWrite _ _
  | m1Reset => exact onM1_effect h fun _ hid => .registers _ _ hid rfl
  | m1MirrorQ => exact onM1_effect h fun _ _ => .answered (.mirror _) rfl
  | m1Scanline | m1IrqClear => exact onM1_effect h fun _ _ => .answered .none rfl
  | m1IrqState => exact onM1_effect h fun _ _ => .answered (.irq _) rfl
  | m2BankSelect | m2Reset => exact onM2_effect h fun _ hid => .registers _ _ hid rfl
  | m2CpuRead => exact onM2_effect h fun _ _ => .prgRead _
  | m2PpuRead => exact onM2_effect h fun _ _ => .chrRead _
  | m2PpuWrite => exact onM2_effect h fun _ _ => .chrWrite _ _
  | m2MirrorQ => exact onM2_effect h fun _ _ => .answered (.mirror _) rfl
  | m2Scanline | m2IrqClear => exact onM2_effect h fun _ _ => .answered .none rfl
  | m2IrqState => exact onM2_effect h fun _ _ => .answered (.irq _) rfl
  | m3ChrSelect | m3Reset => exact onM3_effect h fun _ hid => .registers _ _ hid rfl
  | m3CpuRead => exact onM3_effect h fun _ _ => .prgRead _
  | m3PpuRead => exact onM3_effect h fun _ _ => .chrRead _
  | m3PpuWrite => exact onM3_effect h fun _ _ => .unclaimedPpuWrite _
  | m3MirrorQ => exact onM3_effect h fun _ _ => .answered (.mirror _) rfl
  | m3Scanline | m3IrqClear => exact onM3_effect h fun _ _ => .answered .none rfl
  | m3IrqState => exact onM3_effect h fun _ _ => .answered (.irq _) rfl
  | m4SramRead => exact onM4_effect h fun _ _ => .sramRead _
  | m4SramWrite => exact onM4_effect h fun _ _ => .sramWrite _ _
  | m4BankSelect | m4BankData | m4Mirror | m4RamProtect | m4IrqLatch | m4IrqReload | m4IrqDisable
  | m4IrqEnable => exact m4Register_effect h
  | m4CpuRead => exact onM4_effect h fun _ _ => .prgRead _
  | m4PpuRead => exact onM4_effect h fun _ _ => .chrRead _
  | m4PpuWrite => exact onM4_effect h fun _ _ => .unclaimedPpuWrite _
  | m4Scanline | m4IrqClear | m4Reset => exact onM4_effect h fun _ hid => .registers _ _ hid rfl
  | m4IrqState => exact onM4_effect h fun _ _ => .answered (.irq _) rfl
  | m4MirrorQ => exact onM4_effect h fun _ _ => .answered (.mirror _) rfl
  | m9CpuRead => exact onM9_effect h fun _ _ => .prgRead _
  | m9NopWrite | m9PrgSelect | m9ChrFd0 | m9ChrFe0 | m9ChrFd1 | m9ChrFe1 | m9Mirror =>
    exact m9Register_effect h
  | m9PpuReadFd0 | m9PpuReadFe0 | m9PpuReadFd1 | m9PpuReadFe1 | m9PpuRead =>
    exact m9PpuRead_effect h
  | m9PpuWrite => exact onM9_effect h fun _ _ => .unclaimedPpuWrite _
  | m9Reset => exact onM9_effect h fun _ hid => .registers _ _ hid rfl
  | m9MirrorQ => exact onM9_effect h fun _ _ => .answered (.mirror _) rfl
  | m9Scanline | m9IrqClear => exact onM9_effect h fun _ _ => .answered .none rfl
  | m9IrqState => exact onM9_effect h fun _ _ => .answered (.irq _) rfl
  | apuP1Env | apuP2Env | apuNoiEnv | apuP1Len | apuP2Len | apuTriLen | apuNoiLen | apuTriLinear
  | apuP1Tlo | apuP2Tlo | apuTriTlo | apuNoiPeriod | apuUnused4009 | apuUnused400d | apuDmc0
  | apuDmc1 | apuDmc2 | apuDmc3 | apuStatus | apuFrame | apuP1Sweep | apuP2Sweep =>
    exact next_effect h (.apu _ _ (Outputs.quiet (.write .notClaimed)) rfl)
  | sysTick => exact execSysTick_effect h
  | apuTick => exact next_effect h (.apu _ _ _ rfl)
  | apuQuarter => exact next_effect h (.apu _ _ (Outputs.quiet .none) rfl)
  | apuHalf => exact next_effect h (.apu _ _ _ rfl)
  | apuMix => exact next_effect h (.answered (.sample _) rfl)
  | apuReset => exact next_effect h (.apu _ _ (Outputs.quiet .none) rfl)

/-- What is performed is an effect too: that of the decoded operation, or an answer alone for a word that
is none (rule R97). -/
theorem perform_effect {word : Tw} (h : s.perform word = .next t) : ExecEffect s t := by
  unfold State.perform at h
  split at h
  · exact exec_effect h
  next reason _ =>
    cases reason with
    | notClaimed => exact next_effect h (.answered .notClaimed rfl)
    | neverGenerated => exact next_effect h (.answered .none rfl)

/-! ### What every effect keeps, and where its offset lies -/

theorem ExecEffect.cfg_eq (h : ExecEffect s t) : t.cfg = s.cfg := by
  cases h <;> simp [State.sramRead, State.sramWrite]

theorem ExecEffect.mapId_eq (h : ExecEffect s t) : t.map.id = s.map.id := by
  cases h <;> simp [State.sramRead, State.sramWrite, *]

/-- A write of CHR RAM lies at its own address, which is below the smallest CHR array. -/
theorem chrRamWrite_offset_lt {c : Cfg} {within : BitVec 13} {space : Space} {off : Nat}
    (h : (Response.write (chrRamResult c within)).offset? = some (space, off)) :
    off < space.size c := by
  rcases chrRamResult_cases c within with ⟨-, hres⟩ | ⟨-, hres⟩ <;> rw [hres] at h <;> cases h
  have hsize : 2 ^ 13 ≤ c.chrSize := by unfold Params.chrSize; omega
  exact within.isLt.trans_le hsize

/-- The offset an operation answers is inside its array (rules R48, R163). -/
theorem ExecEffect.offset_lt (h : ExecEffect s t) (hbanks : 1 ≤ s.cfg.prgBanks) {space : Space}
    {off : Nat} (hoff : t.out.resp.offset? = some (space, off)) : off < space.size s.cfg := by
  cases h with
  | answered resp hresp => cases hresp.symm.trans hoff
  | registers map resp hid hresp => cases hresp.symm.trans hoff
  | apu apu inbox out hout => cases hout.symm.trans hoff
  | prgRead raw => cases hoff; exact wrapPrg_lt hbanks raw
  | chrRead raw => cases hoff; exact wrapChr_lt s.cfg raw
  | latchRead raw map hid => cases hoff; exact wrapChr_lt s.cfg raw
  | sramRead index => cases hoff
  | sramWrite index value => cases hoff
  | prgWrite raw value =>
    rw [State.finishCpuWrite_resp] at hoff
    cases hoff
    exact wrapPrg_lt hbanks raw
  | chrWrite within value =>
    rw [State.finishPpuWrite_out] at hoff
    exact chrRamWrite_offset_lt hoff
  | unclaimedPpuWrite value => cases hoff

/-! ### A step -/

/-- Performing an operation keeps the configuration, so a step with an operation issued is what is
performed. -/
theorem step_eq_perform {tr : Transaction} {rest : List Transaction} (h : s.pending = tr :: rest) :
    step s = (s.begin tr rest).perform tr.word :=
  step_of_pending h fun _ hu => (perform_effect hu).cfg_eq

theorem step_effect {tr : Transaction} {rest : List Transaction} (h : s.pending = tr :: rest)
    (ht : step s = .next t) : ExecEffect (s.begin tr rest) t :=
  perform_effect ((step_eq_perform h).symm.trans ht)

theorem perform_of_decode {word : Tw} {i : Instr} (h : decode s.mapperId word = .ok i) :
    s.perform word = exec i s := by
  simp [State.perform, h]

theorem step_keeps_cfg_and_mapId (h : step s = .next t) :
    t.cfg = s.cfg ∧ t.map.id = s.map.id := by
  cases hp : s.pending with
  | nil => cases (step_of_idle hp).symm.trans h; exact ⟨rfl, rfl⟩
  | cons tr rest => exact ⟨(step_effect hp h).cfg_eq, (step_effect hp h).mapId_eq⟩

end

/-! ### The mixer -/

theorem mixInDomain_iff {o : MixOperands} :
    mixInDomain o = true ↔ 0 ≤ o.p1 ∧ 0 ≤ o.p2 ∧ 0 ≤ o.t ∧ 0 ≤ o.n := by
  simp [mixInDomain, and_assoc]

theorem mixSample_of_exact {c : Cfg} {o : MixOperands} (hdom : mixInDomain (afterMute o) = true)
    (h : c.mixArith = .exact) :
    mixSample c o = .real (mixExact mixConstants (afterMute o)) := by
  simp [mixSample, hdom, h]

theorem mixSample_of_implementation {c : Cfg} {o : MixOperands}
    (hdom : mixInDomain (afterMute o) = true) (h : c.mixArith = .implementation) :
    mixSample c o = mixIn implementationNumerics mixConstants (afterMute o) := by
  simp [mixSample, hdom, h]

theorem implementation_pulseOut (k : MixConstants) (sum : Sample) :
    pulseOut implementationNumerics k sum =
      if sum = .real 0 then .real 0
      else Config.mixDiv (.real k.pulseScale)
        (Config.mixAdd (Config.mixDiv (.real k.pulseNumerator) sum) (.real k.base)) := by
  simp [pulseOut, implementationNumerics]

theorem implementation_tndOut (k : MixConstants) (sum : Sample) :
    tndOut implementationNumerics k sum =
      if sum = .real 0 then .real 0
      else Config.mixDiv (.real k.tndScale)
        (Config.mixAdd (Config.mixDiv (.real 1) sum) (.real k.base)) := by
  simp [tndOut, implementationNumerics]

theorem exec_apuMix (s : State) :
    exec .apuMix s = .next (answered s (.sample (mixSample s.cfg s.side.mix))) := rfl

/-! ### The statements -/

/-- Settles O6: the state in which the decoded operation runs is the one with it taken. -/
theorem stepRunsTheDecodedOperation : Obligations.StepRunsTheDecodedOperation :=
  fun _ _ _ _ hpending hdecode => (step_eq_perform hpending).trans (perform_of_decode hdecode)

/-- Settles O16: the step puts the configuration it was given beside what `blockStep` answers, and no
effect of an instruction changes the configuration or the mapper variant. -/
theorem configurationNeverChanges : Obligations.ConfigurationNeverChanges :=
  ⟨fun _ _ => underCfg_eq_next, fun _ _ _ h => ⟨(exec_effect h).cfg_eq, (exec_effect h).mapId_eq⟩,
    fun _ _ => step_keeps_cfg_and_mapId⟩

/-- Settles O15: an answered offset is one of an `ExecEffect`, which has reduced it to its array. -/
theorem answeredOffsetsAreInsideTheArray : Obligations.AnsweredOffsetsAreInsideTheArray := by
  intro s t space off hinv hpending hstep hresp
  obtain ⟨tr, rest, hp⟩ := List.exists_cons_of_ne_nil hpending
  have hlt : off < space.size s.cfg :=
    (step_effect hp hstep).offset_lt hinv.prgBanks_pos (Response.offset?_of_answered hresp)
  have hcfg : t.cfg = s.cfg := (step_keeps_cfg_and_mapId hstep).1
  refine ⟨?_, rfl, hcfg ▸ Space.offset_ne_sentinel hlt, fun _ => rfl, rfl⟩
  cases space <;> exact hlt

/-- Settles O58: `Mix` answers `mixSample`, which on the domain is the formula in the arithmetic that
`MIX_ARITH` names. -/
theorem mixFollowsTheFormulas : Obligations.MixFollowsTheFormulas := by
  intro s
  refine ⟨⟨_, exec_apuMix s⟩, fun h1 h2 ht hn => ?_⟩
  have hdom : mixInDomain (afterMute s.side.mix) = true := mixInDomain_iff.2 ⟨h1, h2, ht, hn⟩
  constructor
  · intro harith
    rw [exec_apuMix, mixSample_of_exact hdom harith, mixExact_eq]
    rfl
  · intro harith
    rw [exec_apuMix, mixSample_of_implementation hdom harith, mixIn, implementation_pulseOut,
      implementation_tndOut]
    rfl

end Sys2Proof.Machine
end

section
/-! PROOFS. The statements of `10_state.md`, first part: the invariant. One lemma for each update of the
block says what it needs to keep the invariant; `BlockEffect` says which of these updates an instruction
makes, and with which operands. -/

namespace Sys2Proof.Machine

/-! ### The parts of the invariant -/

theorem arrayLegal_iff {m : Memory} {size : Nat} :
    arrayLegal m size = true ↔ Memory.wf m = true ∧ Memory.within m size = true := by
  simp [arrayLegal]

theorem arrayLegal_nil (size : Nat) : arrayLegal [] size = true := rfl

/-- A write inside a legal array leaves it legal. -/
theorem arrayLegal_write {m : Memory} {size off : Nat} (value : Byte) (h : arrayLegal m size = true)
    (hoff : off < size) : arrayLegal (Memory.write m off value) size = true := by
  obtain ⟨hwf, hwithin⟩ := arrayLegal_iff.1 h
  exact arrayLegal_iff.2 ⟨Memory.wf_write hwf, Memory.within_write hoff hwithin⟩

/-- A loaded array that is no longer than its size is legal. -/
theorem arrayLegal_ofBytes {bytes : List Byte} {size : Nat} (h : bytes.length ≤ size) :
    arrayLegal (Memory.ofBytes bytes) size = true :=
  arrayLegal_iff.2 ⟨Memory.wf_ofBytes bytes, Memory.within_ofBytes h⟩

theorem contentsLegal_iff {c : Cfg} :
    contentsLegal c = true ↔ arrayLegal c.prg c.prgSize = true ∧ arrayLegal c.chr c.chrSize = true ∧
      arrayLegal c.sramInit Cfg.sramSize = true ∧ (c.chrBanks = 0 → c.chr = []) := by
  simp [contentsLegal, and_assoc, or_iff_not_imp_left]

/-- A PPU address below $2000 is inside the smallest CHR array (rule R6). -/
theorem patternAddr_lt_chrSize (c : Cfg) (within : BitVec 13) : within.toNat < c.chrSize := by
  have hsize : 2 ^ 13 ≤ c.chrSize := by unfold Params.chrSize; omega
  exact within.isLt.trans_le hsize

theorem lengthsLegal_iff {a : ApuState} :
    lengthsLegal a = true ↔
      a.lenP1.toNat ≤ 254 ∧ a.lenP2.toNat ≤ 254 ∧ a.lenT.toNat ≤ 254 ∧ a.lenN.toNat ≤ 254 := by
  simp [lengthsLegal, and_assoc]

/-- An entry of a table as rule R37 has it is at most 254. -/
theorem tableLength_le {c : Cfg} (h : tableLegal c = true) (index : BitVec 5) :
    (tableLength c index).toNat ≤ 254 := by
  simpa [tableLength] using Vector.all_eq_true.1 h index.toNat index.isLt

/-! ### Mapper 4: the latched offsets -/

/-- Every CHR offset that `Recompute()` latches is a multiple of 1 KiB (rule R235). -/
theorem chrLayout_aligned (inverted : Bool) (bank : Vector Byte 8) :
    (chrLayout inverted bank).all (fun off => off % 0x400 == 0) = true := by
  cases inverted <;> simp [chrLayout, chrPair, chrSingle]

/-- Every PRG offset that `Recompute()` latches is a multiple of 8 KiB (rule R235). -/
theorem prgLayout_aligned (prgBanks : Nat) (mode : Bool) (bank : Vector Byte 8) :
    (prgLayout prgBanks mode bank).all (fun off => off % 0x2000 == 0) = true := by
  cases mode <;> simp [prgLayout]

/-- `Recompute()` leaves the offsets legal (rules R48, R235). -/
theorem M4State.offsetsLegal_recompute (prgBanks : Nat) (r : M4State) :
    (r.recompute prgBanks).offsetsLegal prgBanks = true := by
  have hpinned : (prgLayout prgBanks r.prgMode r.bank)[3] = (2 * prgBanks - 1) * 0x2000 ∧
      ((prgLayout prgBanks r.prgMode r.bank)[0] = (2 * prgBanks - 2) * 0x2000 ∨
        (prgLayout prgBanks r.prgMode r.bank)[2] = (2 * prgBanks - 2) * 0x2000) := by
    cases r.prgMode <;> simp [prgLayout]
  simpa [M4State.recompute, M4State.offsetsLegal, chrLayout_aligned, prgLayout_aligned] using hpinned

theorem M4State.offsetsLegal_congr {prgBanks : Nat} {r r' : M4State} (hchr : r'.chrOff = r.chrOff)
    (hprg : r'.prgOff = r.prgOff) : r'.offsetsLegal prgBanks = r.offsetsLegal prgBanks := by
  simp only [M4State.offsetsLegal, hchr, hprg]

theorem isRegisterMirror_mirrorOfBit (horizontal : Bool) :
    isRegisterMirror (mirrorOfBit horizontal) = true := by
  cases horizontal <;> rfl

theorem M9State.moveLatch_mirror (r : M9State) (within : BitVec 13) :
    (r.moveLatch within).mirror = r.mirror := by
  rw [M9State.moveLatch_frame]

/-! ### What an operation can do to the mapper registers -/

/-- The changes that an instruction can make to the registers of its mapper: the serial loader of mapper 1
stays within its count (rule R195), the latched offsets of mapper 4 are recomputed in a bank-data write and
in `Reset` and stay in every other change (rule R30), and a mirroring register keeps to its two modes. -/
inductive RegistersChange (c : Cfg) (i : Instr) : MapState → MapState → Prop
  | m1 (hi : i.mapper = some .m1) (r r' : M1State) (hcnt : r.cnt ≤ 4 → r'.cnt ≤ 4) :
      RegistersChange c i (.m1 r) (.m1 r')
  | m2 (hi : i.mapper = some .m2) (r r' : M2State) : RegistersChange c i (.m2 r) (.m2 r')
  | m3 (hi : i.mapper = some .m3) (r r' : M3State) : RegistersChange c i (.m3 r) (.m3 r')
  | m4Latched (hi : i.mapper = some .m4) (r r' : M4State) (hchr : r'.chrOff = r.chrOff)
      (hprg : r'.prgOff = r.prgOff)
      (hmirror : isRegisterMirror r.mirror = true → isRegisterMirror r'.mirror = true) :
      RegistersChange c i (.m4 r) (.m4 r')
  | m4Recomputed (hi : i = .m4Reset ∨ ∃ value, i = .m4BankData value) (r r' : M4State)
      (hmirror : isRegisterMirror r.mirror = true → isRegisterMirror r'.mirror = true) :
      RegistersChange c i (.m4 r) (.m4 (r'.recompute c.prgBanks))
  | m9 (hi : i.mapper = some .m9) (r r' : M9State)
      (hmirror : isRegisterMirror r.mirror = true → isRegisterMirror r'.mirror = true) :
      RegistersChange c i (.m9 r) (.m9 r')

section

variable {c : Cfg} {i : Instr} {map map' : MapState}

theorem RegistersChange.id_eq (h : RegistersChange c i map map') : map'.id = map.id := by
  cases h <;> rfl

/-- The registers of a mapper are changed by the operations of its own table (rule R92). -/
theorem RegistersChange.mapper_eq (h : RegistersChange c i map map') : i.mapper = some map.id := by
  cases h with
  | m4Recomputed hi r r' hmirror => obtain rfl | ⟨value, rfl⟩ := hi <;> rfl
  | m1 hi | m2 hi | m3 hi | m4Latched hi | m9 hi => exact hi

theorem MapState.legal_m1 {r : M1State} :
    (MapState.m1 r).legal c = true ↔ r.cnt ≤ 4 ∧ c.prgBanks ≤ mmc1MaxPrgBanks := by
  simp [MapState.legal]

theorem MapState.legal_m4 {r : M4State} :
    (MapState.m4 r).legal c = true ↔
      r.offsetsLegal c.prgBanks = true ∧ isRegisterMirror r.mirror = true := by
  simp [MapState.legal]

/-- No change of the registers leaves the legal ones. -/
theorem RegistersChange.legal (h : RegistersChange c i map map') (hlegal : map.legal c = true) :
    map'.legal c = true := by
  cases h with
  | m1 hi r r' hcnt =>
    obtain ⟨hle, hbanks⟩ := MapState.legal_m1.1 hlegal
    exact MapState.legal_m1.2 ⟨hcnt hle, hbanks⟩
  | m2 | m3 => rfl
  | m4Latched hi r r' hchr hprg hmirror =>
    obtain ⟨hoff, hmode⟩ := MapState.legal_m4.1 hlegal
    exact MapState.legal_m4.2 ⟨(M4State.offsetsLegal_congr hchr hprg).trans hoff, hmirror hmode⟩
  | m4Recomputed hi r r' hmirror =>
    obtain ⟨-, hmode⟩ := MapState.legal_m4.1 hlegal
    exact MapState.legal_m4.2 ⟨M4State.offsetsLegal_recompute _ _, hmirror hmode⟩
  | m9 hi r r' hmirror => exact hmirror hlegal

/-- The latched offsets change only in a bank-data write and in `Reset` (rule R30). -/
theorem RegistersChange.recomputes {r r' : M4State} (h : RegistersChange c i (.m4 r) (.m4 r'))
    (hne : r'.chrOff ≠ r.chrOff ∨ r'.prgOff ≠ r.prgOff) :
    i = .m4Reset ∨ ∃ value, i = .m4BankData value := by
  cases h with
  | m4Latched hi _ _ hchr hprg => exact absurd hne (by simp [hchr, hprg])
  | m4Recomputed hi => exact hi

end

/-- The loader of mapper 1 never holds more than four bits (rules R48, R195). -/
theorem M1State.shift_cnt_le {r : M1State} (h : r.cnt ≤ 4) (bit : BitVec 1) (target : BitVec 2) :
    (r.shift bit target).cnt ≤ 4 := by
  rw [M1State.shift_cnt]
  split <;> omega

theorem M1State.gated_cnt_le {r : M1State} {write : M1State → M1State} (h : r.cnt ≤ 4)
    (hwrite : (write r).cnt ≤ 4) (g : Mmc1Gate) (step : Nat) :
    (r.gated g step write).cnt ≤ 4 := by
  obtain ⟨-, heq⟩ | ⟨-, heq⟩ := r.gated_cases g step write <;> rw [heq]
  · exact hwrite
  · exact h

/-! ### What an operation can do to the APU -/

/-- What becomes of a length counter: it does not grow, or it is loaded from the table (rules R123,
R127). -/
def LengthChange (c : Cfg) (counter counter' : Byte) : Prop :=
  counter'.toNat ≤ counter.toNat ∨ ∃ index, counter' = tableLength c index

theorem LengthChange.kept {c : Cfg} {counter : Byte} : LengthChange c counter counter := .inl le_rfl

theorem LengthChange.le {c : Cfg} {counter counter' : Byte} (h : LengthChange c counter counter')
    (htable : tableLegal c = true) (hle : counter.toNat ≤ 254) : counter'.toNat ≤ 254 := by
  obtain hdown | ⟨index, rfl⟩ := h
  · exact hdown.trans hle
  · exact tableLength_le htable index

/-- What becomes of the frame counter and of the length counters in one operation. -/
structure ApuChange (c : Cfg) (a a' : ApuState) : Prop where
  fc_le : a.fc ≤ 14915 → a'.fc ≤ 14915
  lenP1 : LengthChange c a.lenP1 a'.lenP1
  lenP2 : LengthChange c a.lenP2 a'.lenP2
  lenT : LengthChange c a.lenT a'.lenT
  lenN : LengthChange c a.lenN a'.lenN

theorem ApuChange.lengthsLegal {c : Cfg} {a a' : ApuState} (h : ApuChange c a a')
    (htable : tableLegal c = true) (hlegal : lengthsLegal a = true) : lengthsLegal a' = true := by
  obtain ⟨hP1, hP2, hT, hN⟩ := lengthsLegal_iff.1 hlegal
  exact lengthsLegal_iff.2
    ⟨h.lenP1.le htable hP1, h.lenP2.le htable hP2, h.lenT.le htable hT, h.lenN.le htable hN⟩

theorem apuChange_halfFrame (c : Cfg) (a : ApuState) (inbox : SweepInbox) (side : Side) :
    ApuChange c a (a.halfFrame inbox side) :=
  ⟨id, .inl (lenClock_le _ _ _), .inl (lenClock_le _ _ _), .inl (lenClock_le _ _ _),
    .inl (lenClock_le _ _ _)⟩

theorem apuChange_apuTick (c : Cfg) (a : ApuState) (inbox : SweepInbox) (side : Side) :
    ApuChange c a (a.apuTick inbox side) := by
  have hfc : a.fc ≤ 14915 → (a.apuTick inbox side).fc ≤ 14915 := fun h => by
    rw [ApuState.apuTick_fc]
    exact wrapCount_le (Nat.succ_le_succ h)
  obtain ⟨-, -, heq⟩ | ⟨-, -, heq⟩ | ⟨-, -, heq⟩ := a.apuTick_cases inbox side <;>
    rw [heq] at hfc ⊢
  · exact ⟨hfc, .kept, .kept, .kept, .kept⟩
  · exact ⟨hfc, .kept, .kept, .kept, .kept⟩
  · exact ⟨hfc, .inl (lenClock_le _ _ _), .inl (lenClock_le _ _ _), .inl (lenClock_le _ _ _),
      .inl (lenClock_le _ _ _)⟩

/-- The count of system ticks is no part of it. -/
theorem ApuChange.counted {c : Cfg} {a a' : ApuState} (h : ApuChange c a a') (tick : Nat) :
    ApuChange c a { a' with tick := tick } := { h with }

theorem apuChange_reset (c : Cfg) (a : ApuState) : ApuChange c a ApuState.reset :=
  ⟨fun _ => Nat.zero_le _, .inl (Nat.zero_le _), .inl (Nat.zero_le _), .inl (Nat.zero_le _),
    .inl (Nat.zero_le _)⟩

/-! ### What an instruction can do to the block -/

/-- The writes of static RAM (rules R194, R233). -/
inductive SramWrite : Instr → BitVec 13 → Byte → Prop
  | m1 (index : BitVec 13) (value : Byte) : SramWrite (.m1SramWrite index value) index value
  | m4 (index : BitVec 13) (value : Byte) : SramWrite (.m4SramWrite index value) index value

/-- The PPU writes of the mappers whose CHR can be RAM (rules R185, R201, R215). -/
inductive PatternWrite : Instr → BitVec 13 → Byte → Prop
  | m0 (within : BitVec 13) (value : Byte) : PatternWrite (.m0PpuWrite within value) within value
  | m1 (within : BitVec 13) (value : Byte) : PatternWrite (.m1PpuWrite within value) within value
  | m2 (within : BitVec 13) (value : Byte) : PatternWrite (.m2PpuWrite within value) within value

/-- What an instruction can do to the block, with the instructions that can do it: where `ExecEffect` says
what is answered, this says what is written, by which instruction and under which configuration. -/
inductive BlockEffect (s : State) (i : Instr) (t : State) : Prop
  /-- No state of the block changes. -/
  | kept (hblock : t.toBlock = s.toBlock) (hinbox : t.inbox = s.inbox)
  /-- The mapper's registers change. -/
  | registers {map map' : MapState} (hmap : s.map = map) (hblock : t.toBlock = (s.setMap map').toBlock)
      (hinbox : t.inbox = s.inbox) (hchange : RegistersChange s.cfg i map map')
  /-- The APU changes (rule R20). -/
  | apu {a : ApuState} (hi : i.mapper = none) (hblock : t.toBlock = (s.setApu a).toBlock)
      (hchange : ApuChange s.cfg s.apu a)
  /-- One byte of static RAM is written (rule R33). -/
  | sramWrite {index : BitVec 13} {value : Byte} (hi : SramWrite i index value)
      (howner : s.map.id.ownsSram = true)
      (hblock : t.toBlock = (s.setSram (Memory.write s.sram index.toNat value)).toBlock)
      (hinbox : t.inbox = s.inbox)
  /-- One byte of CHR RAM is written (rule R34). -/
  | chrWrite {within : BitVec 13} {value : Byte} (hi : PatternWrite i within value)
      (hram : s.cfg.chrBanks = 0)
      (hblock : t.toBlock = (s.setChr (Memory.write s.chr within.toNat value)).toBlock)
      (hinbox : t.inbox = s.inbox)
  /-- One byte of PRG is written (rules R162, R183). -/
  | prgWrite {within : BitVec 15} {value : Byte} (raw : Nat) (hi : i = .m0CpuWrite within value)
      (hwritable : s.cfg.prgWritable = true)
      (hblock : t.toBlock = (s.setPrg (Memory.write s.prg (wrapPrg s.cfg raw) value)).toBlock)
      (hinbox : t.inbox = s.inbox)

section

variable {s t : State} {i : Instr}

/-! A next state of an operation of a mapper's table is the one that the operation gives on a block of that
mapper. -/

theorem onM0_elim {P : State → Prop} {u : State} (h : onM0 s u = .next t) (hu : P u) : P t :=
  (onM0_eq_next.1 h).2 ▸ hu

theorem onM1_elim {P : State → Prop} {f : M1State → State} (h : onM1 s f = .next t)
    (hf : ∀ r, s.map = .m1 r → P (f r)) : P t := by
  obtain ⟨r, hmap, rfl⟩ := onM1_eq_next.1 h
  exact hf r hmap

theorem onM2_elim {P : State → Prop} {f : M2State → State} (h : onM2 s f = .next t)
    (hf : ∀ r, s.map = .m2 r → P (f r)) : P t := by
  obtain ⟨r, hmap, rfl⟩ := onM2_eq_next.1 h
  exact hf r hmap

theorem onM3_elim {P : State → Prop} {f : M3State → State} (h : onM3 s f = .next t)
    (hf : ∀ r, s.map = .m3 r → P (f r)) : P t := by
  obtain ⟨r, hmap, rfl⟩ := onM3_eq_next.1 h
  exact hf r hmap

theorem onM4_elim {P : State → Prop} {f : M4State → State} (h : onM4 s f = .next t)
    (hf : ∀ r, s.map = .m4 r → P (f r)) : P t := by
  obtain ⟨r, hmap, rfl⟩ := onM4_eq_next.1 h
  exact hf r hmap

theorem onM9_elim {P : State → Prop} {f : M9State → State} (h : onM9 s f = .next t)
    (hf : ∀ r, s.map = .m9 r → P (f r)) : P t := by
  obtain ⟨r, hmap, rfl⟩ := onM9_eq_next.1 h
  exact hf r hmap

theorem next_elim {P : State → Prop} {u : State} (h : (.next u : Result) = .next t) (hu : P u) : P t :=
  Host.Outcome.next.inj h ▸ hu

/-! The effects that several instructions share. -/

/-- A register write of mapper 4 that leaves the latched offsets and the mirroring register alone. -/
theorem m4Register_blockEffect {f : M4State → M4State} (h : m4Register s f = .next t)
    (hi : i.mapper = some .m4) (hchr : ∀ r, (f r).chrOff = r.chrOff)
    (hprg : ∀ r, (f r).prgOff = r.prgOff)
    (hmirror : ∀ r, isRegisterMirror r.mirror = true → isRegisterMirror (f r).mirror = true) :
    BlockEffect s i t :=
  onM4_elim h fun r hmap => .registers hmap rfl rfl (.m4Latched hi r _ (hchr r) (hprg r) (hmirror r))

theorem m9Register_blockEffect {f : M9State → M9State} (h : m9Register s f = .next t)
    (hi : i.mapper = some .m9)
    (hmirror : ∀ r, isRegisterMirror r.mirror = true → isRegisterMirror (f r).mirror = true) :
    BlockEffect s i t :=
  onM9_elim h fun r hmap => .registers hmap rfl rfl (.m9 hi r _ (hmirror r))

theorem m9PpuRead_blockEffect {within : BitVec 13} (h : m9PpuRead s within = .next t)
    (hi : i.mapper = some .m9) : BlockEffect s i t :=
  onM9_elim h fun r hmap =>
    .registers hmap rfl rfl (.m9 hi r _ fun hmode => (r.moveLatch_mirror within).symm ▸ hmode)

theorem prgWrite_blockEffect (within : BitVec 15) (value : Byte) (raw : Nat) :
    BlockEffect s (.m0CpuWrite within value) (s.finishCpuWrite (prgResult s.cfg raw) value) := by
  obtain hblock | ⟨off, hoff, hwritable, hblock⟩ := s.finishCpuWrite_toBlock (prgResult s.cfg raw) value
  · exact .kept hblock (s.finishCpuWrite_inbox _ _)
  · cases hoff
    exact .prgWrite raw rfl hwritable hblock (s.finishCpuWrite_inbox _ _)

theorem patternWrite_blockEffect {within : BitVec 13} {value : Byte} (hi : PatternWrite i within value) :
    BlockEffect s i (s.finishPpuWrite (chrRamResult s.cfg within) value) := by
  obtain ⟨hram, hres⟩ | ⟨-, hres⟩ := chrRamResult_cases s.cfg within <;> rw [hres]
  · exact .chrWrite hi hram rfl rfl
  · exact .kept rfl rfl

theorem execSysTick_blockEffect (h : execSysTick s = .next t) : BlockEffect s .sysTick t := by
  unfold execSysTick at h
  split at h
  · exact next_elim h (.apu rfl rfl ((apuChange_apuTick s.cfg s.apu s.inbox s.side).counted _))
  · exact next_elim h (.apu rfl rfl ⟨id, .kept, .kept, .kept, .kept⟩)

/-- Every instruction does one of the things `BlockEffect` lists. -/
theorem exec_blockEffect (h : exec i s = .next t) : BlockEffect s i t := by
  cases i with
  | m0CpuRead | m0PpuRead | m0Reset | m0MirrorQ | m0Scanline | m0IrqState | m0IrqClear =>
    exact onM0_elim h (.kept rfl rfl)
  | m0CpuWrite => exact onM0_elim h (prgWrite_blockEffect _ _ _)
  | m0PpuWrite => exact onM0_elim h (patternWrite_blockEffect (.m0 _ _))
  | m1SramRead | m1CpuRead | m1PpuRead | m1MirrorQ | m1Scanline | m1IrqState | m1IrqClear =>
    exact onM1_elim h fun _ _ => .kept rfl rfl
  | m1SramWrite => exact onM1_elim h fun _ hmap => .sramWrite (.m1 _ _) (hmap ▸ rfl) rfl rfl
  | m1SerialReset =>
    exact onM1_elim h fun r hmap => .registers hmap rfl rfl
      (.m1 rfl r _ fun hcnt => M1State.gated_cnt_le hcnt (Nat.zero_le 4) _ _)
  | m1SerialShift =>
    exact onM1_elim h fun r hmap => .registers hmap rfl rfl
      (.m1 rfl r _ fun hcnt => M1State.gated_cnt_le hcnt (M1State.shift_cnt_le hcnt _ _) _ _)
  | m1PpuWrite => exact onM1_elim h fun _ _ => patternWrite_blockEffect (.m1 _ _)
  | m1Reset =>
    exact onM1_elim h fun r hmap => .registers hmap rfl rfl
      (.m1 rfl r M1State.reset fun _ => Nat.zero_le 4)
  | m2BankSelect | m2Reset =>
    exact onM2_elim h fun r hmap => .registers hmap rfl rfl (.m2 rfl r _)
  | m2CpuRead | m2PpuRead | m2MirrorQ | m2Scanline | m2IrqState | m2IrqClear =>
    exact onM2_elim h fun _ _ => .kept rfl rfl
  | m2PpuWrite => exact onM2_elim h fun _ _ => patternWrite_blockEffect (.m2 _ _)
  | m3ChrSelect | m3Reset =>
    exact onM3_elim h fun r hmap => .registers hmap rfl rfl (.m3 rfl r _)
  | m3CpuRead | m3PpuRead | m3PpuWrite | m3MirrorQ | m3Scanline | m3IrqState | m3IrqClear =>
    exact onM3_elim h fun _ _ => .kept rfl rfl
  | m4SramRead | m4CpuRead | m4PpuRead | m4PpuWrite | m4MirrorQ | m4IrqState =>
    exact onM4_elim h fun _ _ => .kept rfl rfl
  | m4SramWrite => exact onM4_elim h fun _ hmap => .sramWrite (.m4 _ _) (hmap ▸ rfl) rfl rfl
  | m4BankSelect | m4RamProtect | m4IrqLatch | m4IrqReload | m4IrqDisable | m4IrqEnable =>
    exact m4Register_blockEffect h rfl (fun _ => rfl) (fun _ => rfl) fun _ => id
  | m4Mirror horizontal =>
    exact m4Register_blockEffect h rfl (fun _ => rfl) (fun _ => rfl)
      fun _ _ => isRegisterMirror_mirrorOfBit horizontal
  | m4BankData value =>
    exact onM4_elim h fun r hmap => .registers hmap rfl rfl (.m4Recomputed (.inr ⟨value, rfl⟩) r _ id)
  | m4Scanline | m4IrqClear =>
    exact onM4_elim h fun r hmap => .registers hmap rfl rfl (.m4Latched rfl r _ rfl rfl id)
  | m4Reset =>
    exact onM4_elim h fun r hmap => .registers hmap rfl rfl (.m4Recomputed (.inl rfl) r _ fun _ => rfl)
  | m9CpuRead | m9PpuWrite | m9MirrorQ | m9Scanline | m9IrqState | m9IrqClear =>
    exact onM9_elim h fun _ _ => .kept rfl rfl
  | m9NopWrite | m9PrgSelect | m9ChrFd0 | m9ChrFe0 | m9ChrFd1 | m9ChrFe1 =>
    exact m9Register_blockEffect h rfl fun _ => id
  | m9Mirror horizontal =>
    exact m9Register_blockEffect h rfl fun _ _ => isRegisterMirror_mirrorOfBit horizontal
  | m9PpuReadFd0 | m9PpuReadFe0 | m9PpuReadFd1 | m9PpuReadFe1 | m9PpuRead =>
    exact m9PpuRead_blockEffect h rfl
  | m9Reset =>
    exact onM9_elim h fun r hmap =>
      .registers hmap rfl rfl (.m9 rfl r (M9State.reset s.cfg) fun _ => rfl)
  | apuP1Env | apuP2Env | apuNoiEnv | apuTriLinear | apuP1Tlo | apuP2Tlo | apuTriTlo | apuNoiPeriod
  | apuUnused4009 | apuUnused400d | apuDmc0 | apuDmc1 | apuDmc2 | apuDmc3 | apuStatus | apuFrame
  | apuP1Sweep | apuP2Sweep | apuQuarter =>
    exact next_elim h (.apu rfl rfl ⟨id, .kept, .kept, .kept, .kept⟩)
  | apuP1Len index => exact next_elim h (.apu rfl rfl ⟨id, .inr ⟨index, rfl⟩, .kept, .kept, .kept⟩)
  | apuP2Len index => exact next_elim h (.apu rfl rfl ⟨id, .kept, .inr ⟨index, rfl⟩, .kept, .kept⟩)
  | apuTriLen index => exact next_elim h (.apu rfl rfl ⟨id, .kept, .kept, .inr ⟨index, rfl⟩, .kept⟩)
  | apuNoiLen index => exact next_elim h (.apu rfl rfl ⟨id, .kept, .kept, .kept, .inr ⟨index, rfl⟩⟩)
  | sysTick => exact execSysTick_blockEffect h
  | apuTick => exact next_elim h (.apu rfl rfl (apuChange_apuTick s.cfg s.apu s.inbox s.side))
  | apuHalf => exact next_elim h (.apu rfl rfl (apuChange_halfFrame s.cfg s.apu s.inbox s.side))
  | apuMix => exact next_elim h (.kept rfl rfl)
  | apuReset => exact next_elim h (.apu rfl rfl (apuChange_reset s.cfg s.apu))

end

section

variable {s t : State} {i : Instr}

/-! ### What keeps the invariant -/

/-- The invariant is about the block and its configuration alone. -/
theorem State.Inv.congr (h : s.Inv) (hblock : t.toBlock = s.toBlock) (hcfg : t.cfg = s.cfg) : t.Inv := by
  obtain ⟨b, e, c⟩ := s
  obtain ⟨b', e', c'⟩ := t
  cases hblock
  cases hcfg
  exact { h with }

theorem State.Inv.setMap {map : MapState} (h : s.Inv) (hid : map.id = s.map.id)
    (hlegal : map.legal s.cfg = true) : (s.setMap map).Inv := by
  obtain ⟨hvariant, hrest⟩ := shapeLegal_iff.1 h.shape_legal
  exact { h with
    shape_legal := shapeLegal_iff.2 ⟨hid.trans hvariant, hrest⟩
    map_legal := hlegal }

theorem State.Inv.setApu {a : ApuState} (h : s.Inv) (hchange : ApuChange s.cfg s.apu a) :
    (s.setApu a).Inv :=
  { h with
    fc_le := hchange.fc_le h.fc_le
    lengths_legal := fun htable => hchange.lengthsLegal htable (h.lengths_legal htable) }

theorem State.Inv.setSram {m : Memory} (h : s.Inv) (howner : s.map.id.ownsSram = true)
    (hlegal : arrayLegal m Cfg.sramSize = true) : (s.setSram m).Inv := by
  obtain ⟨hvariant, -, hchr, hprg⟩ := shapeLegal_iff.1 h.shape_legal
  have hsram : s.cfg.mapperId.ownsSram = true := hvariant ▸ howner
  exact { h with
    shape_legal := shapeLegal_iff.2 ⟨hvariant, hsram.symm, hchr, hprg⟩
    sram_legal := hlegal }

theorem State.Inv.setChr {m : Memory} (h : s.Inv) (hram : s.cfg.chrBanks = 0)
    (hlegal : arrayLegal m s.cfg.chrSize = true) : (s.setChr m).Inv := by
  obtain ⟨hvariant, hsram, -, hprg⟩ := shapeLegal_iff.1 h.shape_legal
  exact { h with
    shape_legal := shapeLegal_iff.2 ⟨hvariant, hsram, (beq_iff_eq.2 hram).symm, hprg⟩
    chr_legal := hlegal }

theorem State.Inv.setPrg {m : Memory} (h : s.Inv) (hwritable : s.cfg.prgWritable = true)
    (hlegal : arrayLegal m s.cfg.prgSize = true) : (s.setPrg m).Inv := by
  obtain ⟨hvariant, hsram, hchr, -⟩ := shapeLegal_iff.1 h.shape_legal
  exact { h with
    shape_legal := shapeLegal_iff.2 ⟨hvariant, hsram, hchr, hwritable.symm⟩
    prg_legal := hlegal }

/-- What an instruction does to the block keeps the invariant. -/
theorem BlockEffect.inv (h : BlockEffect s i t) (hcfg : t.cfg = s.cfg) (hinv : s.Inv) : t.Inv := by
  cases h with
  | kept hblock => exact hinv.congr hblock hcfg
  | registers hmap hblock _ hchange =>
    subst hmap
    exact (hinv.setMap hchange.id_eq (hchange.legal hinv.map_legal)).congr hblock hcfg
  | apu _ hblock hchange => exact (hinv.setApu hchange).congr hblock hcfg
  | @sramWrite index value _ howner hblock =>
    have hlt : index.toNat < Cfg.sramSize := index.isLt.trans (by decide)
    exact (hinv.setSram howner (arrayLegal_write value hinv.sram_legal hlt)).congr hblock hcfg
  | @chrWrite within value _ hram hblock =>
    have hlt : within.toNat < s.cfg.chrSize := patternAddr_lt_chrSize s.cfg within
    exact (hinv.setChr hram (arrayLegal_write value hinv.chr_legal hlt)).congr hblock hcfg
  | @prgWrite _ value raw _ hwritable hblock =>
    have hlt : wrapPrg s.cfg raw < s.cfg.prgSize := wrapPrg_lt hinv.prgBanks_pos raw
    exact (hinv.setPrg hwritable (arrayLegal_write value hinv.prg_legal hlt)).congr hblock hcfg

/-! ### What a step does to the block -/

/-- What is performed leaves the block, or is the effect of the decoded instruction on it (rule R97). -/
theorem perform_blockEffect {word : Tw} (h : s.perform word = .next t) :
    t.toBlock = s.toBlock ∨ ∃ i, decode s.mapperId word = .ok i ∧ BlockEffect s i t := by
  unfold State.perform at h
  split at h
  next i hdecode => exact .inr ⟨i, hdecode, exec_blockEffect h⟩
  next reason _ => cases reason <;> cases h <;> exact .inl rfl

/-- A step leaves the block, or does to it what the instruction does that the next operation decodes to. -/
theorem step_blockEffect (h : step s = .next t) :
    t.toBlock = s.toBlock ∨ ∃ tr rest i, s.pending = tr :: rest ∧
      decode s.mapperId tr.word = .ok i ∧ BlockEffect (s.begin tr rest) i t := by
  cases hp : s.pending with
  | nil => cases (step_of_idle hp).symm.trans h; exact .inl rfl
  | cons tr rest =>
    obtain hblock | ⟨i, hdecode, heffect⟩ := perform_blockEffect ((step_eq_perform hp).symm.trans h)
    · exact .inl hblock
    · exact .inr ⟨tr, rest, i, rfl, hdecode, heffect⟩

/-! ### Construction -/

theorem MapState.legal_reset {c : Cfg} (hbanks : c.mapperId = .m1 → c.prgBanks ≤ mmc1MaxPrgBanks) :
    (MapState.reset c.mapperId c).legal c = true := by
  cases hm : c.mapperId with
  | m0 | m2 | m3 | m9 => rfl
  | m1 => exact MapState.legal_m1.2 ⟨Nat.zero_le 4, hbanks hm⟩
  | m4 => exact MapState.legal_m4.2 ⟨M4State.offsetsLegal_recompute _ _, rfl⟩

/-- A block reset under a legal configuration meets the invariant (rules R48, R302). -/
theorem Block.inv_reset {c : Cfg} {e : Environment} (hcontents : contentsLegal c = true)
    (hpos : 1 ≤ c.prgBanks) (hbanks : c.mapperId = .m1 → c.prgBanks ≤ mmc1MaxPrgBanks) :
    ((Block.reset c).under e c).Inv := by
  obtain ⟨hprg, hchr, hsram, -⟩ := contentsLegal_iff.1 hcontents
  exact {
    shape_legal := shapeLegal_reset c
    contents_legal := hcontents
    prgBanks_pos := hpos
    map_legal := MapState.legal_reset hbanks
    fc_le := Nat.zero_le _
    lengths_legal := fun _ => rfl
    prg_legal := by
      change arrayLegal ((prgAtReset c).getD c.prg) _ = true
      unfold prgAtReset
      split <;> exact hprg
    chr_legal := by
      change arrayLegal ((chrAtReset c).getD c.chr) _ = true
      unfold chrAtReset
      split
      · exact arrayLegal_nil _
      · exact hchr
    sram_legal := by
      change arrayLegal ((sramAtReset c).getD c.sramInit) _ = true
      unfold sramAtReset
      split <;> exact hsram }

/-- What an accepted cartridge satisfies (rule R281). -/
theorem checkCartridge_ok {c : Cartridge} {m : MapperId} (h : checkCartridge c = .ok m) :
    1 ≤ c.params.prgBanks ∧ (m = .m1 → c.params.prgBanks ≤ mmc1MaxPrgBanks) ∧
      c.prg.length = c.params.prgSize ∧ c.chr.length = c.params.chrSize := by
  unfold checkCartridge at h
  split at h
  · cases h
  · split_ifs at h with hzero hlarge hlength
    cases h
    obtain ⟨hprg, hchr⟩ := not_or.1 hlength
    exact ⟨Nat.pos_of_ne_zero hzero, fun hm => not_lt.1 fun hlt => hlarge ⟨hm, hlt⟩,
      not_not.1 hprg, not_not.1 hchr⟩

theorem Cartridge.contentsLegal_cfg {c : Cartridge} (m : MapperId) (hprg : c.prg.length = c.params.prgSize)
    (hchr : c.chr.length = c.params.chrSize) : contentsLegal (c.cfg m) = true := by
  have hchrLegal : arrayLegal (c.cfg m).chr c.params.chrSize = true := by
    unfold Cartridge.cfg
    dsimp only
    split
    · exact arrayLegal_nil _
    · exact arrayLegal_ofBytes hchr.le
  exact contentsLegal_iff.2 ⟨arrayLegal_ofBytes hprg.le, hchrLegal,
    arrayLegal_ofBytes (List.length_take_le _ _), fun hram => if_pos hram⟩

theorem construct_ok {c : Cartridge} (h : construct c = .ok s) :
    ∃ m, checkCartridge c = .ok m ∧ s = (Block.reset (c.cfg m)).under Environment.reset (c.cfg m) := by
  unfold construct at h
  split at h
  · cases h
  next m hcheck => exact ⟨m, hcheck, (Except.ok.inj h).symm⟩

/-! ### What an instruction leaves unchanged -/

theorem ExecEffect.side_eq (h : ExecEffect s t) : t.side = s.side := by
  cases h <;> simp [State.sramRead, State.sramWrite]

theorem ExecEffect.pending_eq (h : ExecEffect s t) : t.pending = s.pending := by
  cases h <;> simp [State.sramRead, State.sramWrite]

/-- An operation of the APU table changes nothing of the block but the APU (rule R20). -/
theorem BlockEffect.toBlock_of_apu (h : BlockEffect s i t) (hi : i.mapper = none) :
    t.toBlock = { s.toBlock with apu := t.apu } := by
  cases h with
  | kept hblock => rw [hblock]
  | apu _ hblock => rw [hblock]; rfl
  | registers _ _ _ hchange => cases hchange.mapper_eq.symm.trans hi
  | sramWrite hwrite => cases hwrite <;> cases hi
  | chrWrite hwrite => cases hwrite <;> cases hi
  | prgWrite _ hwrite => subst hwrite; cases hi

/-- An operation of a mapper's table leaves the APU and its sweep units alone (rule R20). -/
theorem BlockEffect.apu_of_mapper (h : BlockEffect s i t) (hi : i.mapper ≠ none) :
    t.apu = s.apu ∧ t.inbox = s.inbox := by
  cases h with
  | apu hnone => exact absurd hnone hi
  | kept hblock hinbox | registers _ hblock hinbox | sramWrite _ _ hblock hinbox
  | chrWrite _ _ hblock hinbox | prgWrite _ _ _ hblock hinbox =>
    exact ⟨(congrArg Block.apu hblock :), hinbox⟩

/-- Static RAM changes by its writes alone (rule R33). -/
theorem BlockEffect.sram_cases (h : BlockEffect s i t) (hcfg : t.cfg = s.cfg) :
    t.sram = s.sram ∨ ∃ index value, SramWrite i index value ∧
      t.sram = Memory.write s.sram index.toNat value := by
  cases h with
  | sramWrite hwrite _ hblock =>
    have hstate := congrArg Block.sramState hblock
    exact .inr ⟨_, _, hwrite, by simp [State.sram, hstate, State.setSram]⟩
  | kept hblock | registers _ hblock | apu _ hblock | chrWrite _ _ hblock | prgWrite _ _ _ hblock =>
    exact .inl (State.sram_congr (congrArg Block.sramState hblock :) hcfg)

/-- CHR changes by the PPU writes of mappers 0, 1 and 2 alone, and only where it is RAM (rule R34). -/
theorem BlockEffect.chr_cases (h : BlockEffect s i t) (hcfg : t.cfg = s.cfg) :
    t.chr = s.chr ∨ s.cfg.chrBanks = 0 ∧ ∃ within value, PatternWrite i within value ∧
      t.chr = Memory.write s.chr within.toNat value := by
  cases h with
  | chrWrite hwrite hram hblock =>
    have hstate := congrArg Block.chrState hblock
    exact .inr ⟨hram, _, _, hwrite, by simp [State.chr, hstate, State.setChr]⟩
  | kept hblock | registers _ hblock | apu _ hblock | sramWrite _ _ hblock | prgWrite _ _ _ hblock =>
    exact .inl (State.chr_congr (congrArg Block.chrState hblock :) hcfg)

/-- The mapper registers stay, or change as `RegistersChange` has it. -/
theorem BlockEffect.map_cases (h : BlockEffect s i t) :
    t.map = s.map ∨ RegistersChange s.cfg i s.map t.map := by
  cases h with
  | registers hmap hblock _ hchange =>
    subst hmap
    have hmap' := congrArg Block.map hblock
    exact .inr (hmap'.symm ▸ hchange)
  | kept hblock | apu _ hblock | sramWrite _ _ hblock | chrWrite _ _ hblock | prgWrite _ _ _ hblock =>
    exact .inl (congrArg Block.map hblock :)

end

/-! ### The statements -/

/-- Settles O10: what an instruction does to the block is one of the updates that keep the invariant. -/
theorem stepKeepsTheInvariant : Obligations.StepKeepsTheInvariant := by
  intro s t hinv hstep
  have hcfg : t.cfg = s.cfg := (step_keeps_cfg_and_mapId hstep).1
  obtain hblock | ⟨tr, rest, i, -, -, heffect⟩ := step_blockEffect hstep
  · exact hinv.congr hblock hcfg
  · exact heffect.inv hcfg (hinv.congr rfl rfl)

/-- Settles O12: an accepted cartridge gives a legal configuration, and the block is the one reset under
it. -/
theorem constructionMeetsTheInvariant : Obligations.ConstructionMeetsTheInvariant := by
  intro c s hconstruct
  obtain ⟨m, hcheck, rfl⟩ := construct_ok hconstruct
  obtain ⟨hpos, hbanks, hprg, hchr⟩ := checkCartridge_ok hcheck
  exact Block.inv_reset (c.contentsLegal_cfg m hprg hchr) hpos hbanks

/-- Settles O11: the block of `State.reset` is the one reset under `resetCfg`. -/
theorem resetMeetsTheInvariant : Obligations.ResetMeetsTheInvariant :=
  Block.inv_reset (c := resetCfg) (by decide) (by decide) (by decide)

/-- Settles O17: an instruction of the APU table has an effect on the APU alone, and no other instruction
has that effect. -/
theorem mapperAndApuShareNoState : Obligations.MapperAndApuShareNoState := by
  intro i s t hexec
  have heffect := exec_effect hexec
  refine ⟨heffect.cfg_eq, heffect.side_eq, heffect.pending_eq,
    (exec_blockEffect hexec).toBlock_of_apu, fun m hm => ?_⟩
  exact (exec_blockEffect hexec).apu_of_mapper (by simp [hm])

end Sys2Proof.Machine
end

section
/-! PROOFS. The statements of `10_state.md`, second part: what a decoded write says about its word, and the
three statements that say which words can change an array or the latched offsets. -/

namespace Sys2Proof.Machine

/-! ### The table and the kind of a decoded instruction -/

/-- An instruction of the table of `m` whose word is of the kind `kind` (rules R90, R92). -/
def IsRow (m : MapperId) (kind : BitVec 3) (i : Instr) : Prop :=
  i.mapper = some m ∧ (encode i).kind = kind

section

variable {m : MapperId} {addr : BitVec 16} {data : Byte} {w : Tw} {i : Instr}

theorem decodeCpuRead_isRow (h : decodeCpuRead m addr = some i) : IsRow m kindCpuRead i := by
  unfold decodeCpuRead at h
  split_ifs at h <;> cases m <;> cases h <;> exact ⟨rfl, Tw.kind_pack _ _ _⟩

theorem decodeM4Write_isRow (addr : BitVec 16) (data : Byte) :
    IsRow .m4 kindCpuWrite (decodeM4Write addr data) := by
  unfold decodeM4Write
  split <;> exact ⟨rfl, Tw.kind_pack _ _ _⟩

theorem decodeM9Write_isRow (addr : BitVec 16) (data : Byte) :
    IsRow .m9 kindCpuWrite (decodeM9Write addr data) := by
  unfold decodeM9Write
  split <;> exact ⟨rfl, Tw.kind_pack _ _ _⟩

theorem decodeCpuWrite_isRow (h : decodeCpuWrite m addr data = some i) : IsRow m kindCpuWrite i := by
  unfold decodeCpuWrite at h
  split at h
  · cases m with
    | m0 | m2 | m3 => cases h; exact ⟨rfl, Tw.kind_pack _ _ _⟩
    | m1 => dsimp only at h; split at h <;> cases h <;> exact ⟨rfl, Tw.kind_pack _ _ _⟩
    | m4 => cases h; exact decodeM4Write_isRow addr data
    | m9 => cases h; exact decodeM9Write_isRow addr data
  · split at h
    · cases m <;> cases h <;> exact ⟨rfl, Tw.kind_pack _ _ _⟩
    · cases h

theorem decodeM9PpuRead_isRow (within : BitVec 13) :
    IsRow .m9 kindPpuRead (decodeM9PpuRead within) := by
  unfold decodeM9PpuRead
  dsimp only
  split_ifs <;> exact ⟨rfl, Tw.kind_pack _ _ _⟩

theorem decodePpuRead_isRow (h : decodePpuRead m addr = some i) : IsRow m kindPpuRead i := by
  unfold decodePpuRead at h
  split at h
  · cases m with
    | m0 | m1 | m2 | m3 | m4 => cases h; exact ⟨rfl, Tw.kind_pack _ _ _⟩
    | m9 => cases h; exact decodeM9PpuRead_isRow _
  · cases h

theorem decodePpuWrite_isRow (h : decodePpuWrite m addr data = some i) : IsRow m kindPpuWrite i := by
  unfold decodePpuWrite at h
  split at h
  · cases m <;> cases h <;> exact ⟨rfl, Tw.kind_pack _ _ _⟩
  · cases h

theorem decodeMapperEvent_isRow (h : decodeMapperEvent m data = some i) : IsRow m kindEvent i := by
  unfold decodeMapperEvent at h
  split at h <;> cases m <;> cases h <;> exact ⟨rfl, Tw.kind_pack _ _ _⟩

theorem decodeMapper_isRow (h : decodeMapper m w = some i) : IsRow m w.kind i := by
  unfold decodeMapper at h
  split at h
  next hk => exact BitVec.eq_of_toNat_eq (y := kindCpuRead) hk ▸ decodeCpuRead_isRow h
  next hk => exact BitVec.eq_of_toNat_eq (y := kindCpuWrite) hk ▸ decodeCpuWrite_isRow h
  next hk => exact BitVec.eq_of_toNat_eq (y := kindPpuRead) hk ▸ decodePpuRead_isRow h
  next hk => exact BitVec.eq_of_toNat_eq (y := kindPpuWrite) hk ▸ decodePpuWrite_isRow h
  next hk =>
    split at h
    · exact BitVec.eq_of_toNat_eq (y := kindEvent) hk ▸ decodeMapperEvent_isRow h
    · cases h
  · cases h

theorem decodeApuWrite_mapper (h : decodeApuWrite addr data = some i) : i.mapper = none := by
  unfold decodeApuWrite at h
  split at h <;> cases h <;> rfl

theorem decodeApuEvent_mapper (h : decodeApuEvent data = some i) : i.mapper = none := by
  unfold decodeApuEvent at h
  split at h <;> cases h <;> rfl

theorem decodeApu_mapper (h : decodeApu w = some i) : i.mapper = none := by
  unfold decodeApu at h
  split at h
  · exact decodeApuWrite_mapper h
  · split at h
    · exact decodeApuEvent_mapper h
    · cases h
  · cases h

/-- An instruction of a mapper's table is decoded by that table (rule R92). -/
theorem decodeMapper_of_decode (h : decode m w = .ok i) (hi : i.mapper ≠ none) :
    decodeMapper m w = some i := by
  unfold decode at h
  split at h
  next hmapper => cases h; exact hmapper
  · split at h
    next hapu => cases h; exact absurd (decodeApu_mapper hapu) hi
    · cases h

/-! ### The fields of a decoded write -/

theorem not_sramWrite_of_decodeM4Write (index : BitVec 13) (value : Byte) :
    ¬ SramWrite (decodeM4Write addr data) index value := by
  unfold decodeM4Write
  split <;> nofun

theorem not_sramWrite_of_decodeM9Write (index : BitVec 13) (value : Byte) :
    ¬ SramWrite (decodeM9Write addr data) index value := by
  unfold decodeM9Write
  split <;> nofun

/-- A write of static RAM is decoded on mappers 1 and 4, in its window, with the fields of the word (rules
R194, R233). -/
theorem decodeCpuWrite_sramWrite {index : BitVec 13} {value : Byte}
    (h : decodeCpuWrite m addr data = some i) (hi : SramWrite i index value) :
    isSramAddr addr = true ∧ index = addr.extractLsb' 0 13 ∧ value = data := by
  unfold decodeCpuWrite at h
  split at h
  · cases m with
    | m0 | m2 | m3 => cases h; cases hi
    | m1 => dsimp only at h; split at h <;> cases h <;> cases hi
    | m4 => cases h; exact absurd hi (not_sramWrite_of_decodeM4Write index value)
    | m9 => cases h; exact absurd hi (not_sramWrite_of_decodeM9Write index value)
  · split at h
    next hsram => cases m <;> cases h <;> cases hi <;> exact ⟨hsram, rfl, rfl⟩
    · cases h

/-- A PPU write of mappers 0, 1 and 2 is decoded below $2000, with the fields of the word (rule R67). -/
theorem decodePpuWrite_patternWrite {within : BitVec 13} {value : Byte}
    (h : decodePpuWrite m addr data = some i) (hi : PatternWrite i within value) :
    isPatternAddr addr = true ∧ within = addr.extractLsb' 0 13 ∧ value = data := by
  unfold decodePpuWrite at h
  split at h
  next hpattern => cases m <;> cases h <;> cases hi <;> exact ⟨hpattern, rfl, rfl⟩
  · cases h

theorem decodeMapper_cpuWrite (hk : w.kind = kindCpuWrite) :
    decodeMapper m w = decodeCpuWrite m w.addr w.data := by
  unfold decodeMapper
  rw [hk]
  rfl

theorem decodeMapper_ppuWrite (hk : w.kind = kindPpuWrite) :
    decodeMapper m w = decodePpuWrite m w.addr w.data := by
  unfold decodeMapper
  rw [hk]
  rfl

/-- `addr[15:13]` is 3 in $6000-$7FFF. -/
theorem isSramAddr_iff : isSramAddr addr = true ↔ 0x6000 ≤ addr.toNat ∧ addr.toNat < 0x8000 := by
  have hlt := addr.isLt
  simp only [isSramAddr, beq_iff_eq, ← BitVec.toNat_inj, BitVec.extractLsb'_toNat, Nat.shiftRight_eq_div_pow,
    BitVec.toNat_ofNat]
  omega

/-- `addr[15:13]` is 0 below $2000. -/
theorem isPatternAddr_iff : isPatternAddr addr = true ↔ addr.toNat < 0x2000 := by
  have hlt := addr.isLt
  simp only [isPatternAddr, beq_iff_eq, ← BitVec.toNat_inj, BitVec.extractLsb'_toNat, Nat.shiftRight_eq_div_pow,
    BitVec.toNat_ofNat]
  omega

theorem SramWrite.encode_kind {index : BitVec 13} {value : Byte} (h : SramWrite i index value) :
    (encode i).kind = kindCpuWrite ∧ (i.mapper = some .m1 ∨ i.mapper = some .m4) := by
  cases h with
  | m1 => exact ⟨Tw.kind_pack _ _ _, .inl rfl⟩
  | m4 => exact ⟨Tw.kind_pack _ _ _, .inr rfl⟩

theorem PatternWrite.encode_kind {within : BitVec 13} {value : Byte} (h : PatternWrite i within value) :
    (encode i).kind = kindPpuWrite ∧
      (i.mapper = some .m0 ∨ i.mapper = some .m1 ∨ i.mapper = some .m2) := by
  cases h with
  | m0 => exact ⟨Tw.kind_pack _ _ _, .inl rfl⟩
  | m1 => exact ⟨Tw.kind_pack _ _ _, .inr (.inl rfl)⟩
  | m2 => exact ⟨Tw.kind_pack _ _ _, .inr (.inr rfl)⟩

/-- The word of a decoded write of static RAM (rules R33, R94). -/
theorem decode_sramWrite {index : BitVec 13} {value : Byte} (h : decode m w = .ok i)
    (hi : SramWrite i index value) :
    (m = .m1 ∨ m = .m4) ∧ w.kind = kindCpuWrite ∧ 0x6000 ≤ w.addr.toNat ∧ w.addr.toNat < 0x8000 ∧
      index.toNat = w.addr.toNat % 0x2000 ∧ value = w.data := by
  obtain ⟨hencode, hmapper⟩ := hi.encode_kind
  have hrow := decodeMapper_of_decode h (fun hnone => by simp [hnone] at hmapper)
  obtain ⟨hm, hkind⟩ := decodeMapper_isRow hrow
  have hk : w.kind = kindCpuWrite := hkind.symm.trans hencode
  obtain ⟨haddr, rfl, rfl⟩ := decodeCpuWrite_sramWrite ((decodeMapper_cpuWrite hk).symm.trans hrow) hi
  obtain ⟨hlow, hhigh⟩ := isSramAddr_iff.1 haddr
  exact ⟨by simpa [hm] using hmapper, hk, hlow, hhigh, lowBits_eq_mod w.addr, rfl⟩

/-- The word of a decoded PPU write of mappers 0, 1 and 2 (rules R67, R94). -/
theorem decode_patternWrite {within : BitVec 13} {value : Byte} (h : decode m w = .ok i)
    (hi : PatternWrite i within value) :
    (m = .m0 ∨ m = .m1 ∨ m = .m2) ∧ w.kind = kindPpuWrite ∧ w.addr.toNat < 0x2000 ∧
      within.toNat = w.addr.toNat ∧ value = w.data := by
  obtain ⟨hencode, hmapper⟩ := hi.encode_kind
  have hrow := decodeMapper_of_decode h (fun hnone => by simp [hnone] at hmapper)
  obtain ⟨hm, hkind⟩ := decodeMapper_isRow hrow
  have hk : w.kind = kindPpuWrite := hkind.symm.trans hencode
  obtain ⟨haddr, rfl, rfl⟩ :=
    decodePpuWrite_patternWrite ((decodeMapper_ppuWrite hk).symm.trans hrow) hi
  have hlt := isPatternAddr_iff.1 haddr
  exact ⟨by simpa [hm] using hmapper, hk, hlt,
    (lowBits_eq_mod w.addr).trans (Nat.mod_eq_of_lt hlt), rfl⟩

end

/-! ### The statements -/

/-- Settles O20: static RAM changes by a decoded write of it alone, and that write is one byte. -/
theorem sramIsWrittenOnlyThroughItsWindow : Obligations.SramIsWrittenOnlyThroughItsWindow := by
  intro s u hwf hstep hne
  have hcfg : u.cfg = s.cfg := (step_keeps_cfg_and_mapId hstep).1
  obtain hblock | ⟨tr, rest, i, hpending, hdecode, heffect⟩ := step_blockEffect hstep
  · exact absurd (State.sram_congr (congrArg Block.sramState hblock) hcfg) hne
  obtain hkept | ⟨index, value, hwrite, hsram⟩ := heffect.sram_cases hcfg
  · exact absurd hkept hne
  obtain ⟨hm, hkind, hlow, hhigh, hindex, rfl⟩ := decode_sramWrite hdecode hwrite
  refine ⟨hm, tr, rest, hpending, hkind, hlow, hhigh, fun a => ?_⟩
  rw [hsram, hindex]
  exact Memory.read_write hwf

/-- Settles O21: CHR changes by a decoded PPU write to CHR RAM alone, and that write is one byte. -/
theorem chrIsWrittenOnlyWhenItIsRam : Obligations.ChrIsWrittenOnlyWhenItIsRam := by
  intro s u hwf hstep hne
  have hcfg : u.cfg = s.cfg := (step_keeps_cfg_and_mapId hstep).1
  obtain hblock | ⟨tr, rest, i, hpending, hdecode, heffect⟩ := step_blockEffect hstep
  · exact absurd (State.chr_congr (congrArg Block.chrState hblock) hcfg) hne
  obtain hkept | ⟨hram, within, value, hwrite, hchr⟩ := heffect.chr_cases hcfg
  · exact absurd hkept hne
  obtain ⟨hm, hkind, hlt, hwithin, rfl⟩ := decode_patternWrite hdecode hwrite
  refine ⟨hram, hm, tr, rest, hpending, hkind, hlt, fun a => ?_⟩
  rw [hchr, hwithin]
  exact Memory.read_write hwf

/-- Settles O22: of the changes of mapper 4's registers only a recomputation moves the offsets, and the
instructions that recompute are of mapper 4's table. -/
theorem latchedOffsetsChangeOnlyInTwoOperations :
    Obligations.LatchedOffsetsChangeOnlyInTwoOperations := by
  intro s u r r' hs hstep hu hne
  have hsame : u.map ≠ s.map := fun heq => by
    cases hu.symm.trans (heq.trans hs)
    simp at hne
  obtain hblock | ⟨tr, rest, i, hpending, hdecode, heffect⟩ := step_blockEffect hstep
  · exact absurd (congrArg Block.map hblock) hsame
  obtain hkept | hchange := heffect.map_cases
  · exact absurd hkept hsame
  rw [State.begin_map, hs, hu] at hchange
  have hrow := decodeMapper_of_decode hdecode (by simp [hchange.mapper_eq])
  have hm : s.mapperId = .m4 :=
    Option.some.inj ((decodeMapper_isRow hrow).1.symm.trans hchange.mapper_eq)
  rw [hm] at hdecode
  refine ⟨tr, rest, hpending, ?_⟩
  obtain rfl | ⟨value, rfl⟩ := hchange.recomputes hne
  · exact .inl hdecode
  · exact .inr ⟨value, hdecode⟩

end Sys2Proof.Machine
end

section
/-! PROOFS. The statements of `20_memory.md`: what an access does that no mapper owns, what a read leaves
unchanged, which words write PRG, and where the reset vector is read. -/

namespace Sys2Proof.Machine

open Stated

/-! ### The accesses a table has rows for -/

section

variable {m : MapperId} {addr : BitVec 16} {data : Byte} {w : Tw} {i : Instr} {s t : State}

/-- `addr[15]` is set in $8000-$FFFF. -/
theorem isRomAddr_iff : isRomAddr addr = true ↔ 0x8000 ≤ addr.toNat := by
  have hlt := addr.isLt
  simp only [isRomAddr, beq_iff_eq, ← BitVec.toNat_inj, BitVec.extractLsb'_toNat, Nat.shiftRight_eq_div_pow,
    BitVec.toNat_ofNat]
  omega

/-- No row reads below $8000, but for static RAM (rule R171). -/
theorem decodeCpuRead_eq_none (hrom : ¬ isRomAddr addr = true)
    (hsram : isSramAddr addr = true → m.ownsSram = false) : decodeCpuRead m addr = none := by
  unfold decodeCpuRead
  rw [if_neg hrom]
  split
  next hwindow =>
    cases m with
    | m0 | m2 | m3 | m9 => rfl
    | m1 | m4 => cases hsram hwindow
  · rfl

/-- No row of a mapper's table writes below $8000, but for static RAM (rule R171). -/
theorem decodeCpuWrite_eq_none (hrom : ¬ isRomAddr addr = true)
    (hsram : isSramAddr addr = true → m.ownsSram = false) : decodeCpuWrite m addr data = none := by
  unfold decodeCpuWrite
  rw [if_neg hrom]
  split
  next hwindow =>
    cases m with
    | m0 | m2 | m3 | m9 => rfl
    | m1 | m4 => cases hsram hwindow
  · rfl

theorem decodeMapper_cpuRead (hk : w.kind = kindCpuRead) : decodeMapper m w = decodeCpuRead m w.addr := by
  unfold decodeMapper
  rw [hk]
  rfl

theorem decodeMapper_ppuRead (hk : w.kind = kindPpuRead) : decodeMapper m w = decodePpuRead m w.addr := by
  unfold decodeMapper
  rw [hk]
  rfl

theorem ownsSram_eq_false_iff : m.ownsSram = false ↔ m ≠ .m1 ∧ m ≠ .m4 := by
  cases m <;> decide

/-- The accesses no mapper owns: CPU accesses below $8000, but for static RAM, and PPU accesses from $2000
on (rule R171). -/
theorem isUnowned_iff : isUnowned m w = true ↔
    ((w.kind = kindCpuRead ∨ w.kind = kindCpuWrite) ∧
      (w.addr.toNat < 0x6000 ∨ w.addr.toNat < 0x8000 ∧ m.ownsSram = false)) ∨
    ((w.kind = kindPpuRead ∨ w.kind = kindPpuWrite) ∧ 0x2000 ≤ w.addr.toNat) := by
  unfold isUnowned
  rw [ownsSram_eq_false_iff]
  dsimp only
  split
  next hcpu =>
    change w.kind = kindCpuRead ∨ w.kind = kindCpuWrite at hcpu
    have hppu : ¬ (w.kind = kindPpuRead ∨ w.kind = kindPpuWrite) := by
      obtain hk | hk := hcpu <;> rw [hk] <;> decide
    simp [hcpu, hppu, and_assoc]
  next hcpu =>
    change ¬ (w.kind = kindCpuRead ∨ w.kind = kindCpuWrite) at hcpu
    simp [hcpu, kindPpuRead, kindPpuWrite]

/-- For an access no mapper owns the mapper's table has no row (rule R171). -/
theorem decodeMapper_of_unowned (h : isUnowned m w = true) : decodeMapper m w = none := by
  obtain ⟨hkind, haddr⟩ | ⟨hkind, haddr⟩ := isUnowned_iff.1 h
  · have hrom : ¬ isRomAddr w.addr = true := fun hrom => by
      have := isRomAddr_iff.1 hrom
      omega
    have hsram : isSramAddr w.addr = true → m.ownsSram = false := fun hsram => by
      obtain hlt | ⟨-, hnone⟩ := haddr
      · exact absurd (isSramAddr_iff.1 hsram).1 (not_le.2 hlt)
      · exact hnone
    obtain hk | hk := hkind
    · exact (decodeMapper_cpuRead hk).trans (decodeCpuRead_eq_none hrom hsram)
    · exact (decodeMapper_cpuWrite hk).trans (decodeCpuWrite_eq_none hrom hsram)
  · have hpattern : ¬ isPatternAddr w.addr = true := fun hpattern =>
      absurd (isPatternAddr_iff.1 hpattern) (not_lt.2 haddr)
    obtain hk | hk := hkind
    · exact (decodeMapper_ppuRead hk).trans (if_neg hpattern)
    · exact (decodeMapper_ppuWrite hk).trans (if_neg hpattern)

theorem kind_lt_of_unowned (h : isUnowned m w = true) : w.kind.toNat < 4 := by
  obtain ⟨hk | hk, -⟩ | ⟨hk | hk, -⟩ := isUnowned_iff.1 h <;> rw [hk] <;> decide

/-! ### The register writes of the APU -/

theorem isApuAddr_iff {a : Nat} :
    isApuAddr a = true ↔ (0x4000 ≤ a ∧ a ≤ 0x4013) ∨ a = 0x4015 ∨ a = 0x4017 := by
  simp [isApuAddr, or_assoc]

/-- The APU table has a row for its register addresses and for no other address (rule R95). -/
theorem decodeApuWrite_eq_none_iff : decodeApuWrite addr data = none ↔ isApuAddr addr.toNat = false := by
  rw [← Bool.not_eq_true, isApuAddr_iff]
  unfold decodeApuWrite
  split
  case h_23 =>
    simp only [imp_false] at *
    exact iff_of_true trivial (by omega)
  all_goals exact iff_of_false nofun (by omega)

theorem decodeApu_cpuWrite (hk : w.kind = kindCpuWrite) : decodeApu w = decodeApuWrite w.addr w.data := by
  unfold decodeApu
  rw [hk]
  rfl

/-- Among the bus words the APU table has rows for CPU writes alone (rule R95). -/
theorem decodeApu_of_not_cpuWrite (hk : w.kind.toNat < 4) (hwrite : w.kind ≠ kindCpuWrite) :
    decodeApu w = none := by
  unfold decodeApu
  split
  next h1 => exact absurd (BitVec.eq_of_toNat_eq h1) hwrite
  next h4 => omega
  · rfl

/-- A register write of the APU answers NotClaimed and changes nothing but the APU and the bytes handed to
its sweep units (rules R92, R138). -/
theorem exec_apuWrite (h : decodeApuWrite addr data = some i) (s : State) :
    ∃ apu inbox, exec i s = .next (apuIs { s with inbox := inbox } apu) := by
  unfold decodeApuWrite at h
  split at h <;> cases h <;> exact ⟨_, _, rfl⟩

/-! ### What is performed, by the table that has a row -/

theorem perform_of_decodeMapper (h : decodeMapper s.mapperId w = some i) : s.perform w = exec i s :=
  perform_of_decode (by simp [decode, h])

theorem perform_of_decodeApu (hmapper : decodeMapper s.mapperId w = none) (h : decodeApu w = some i) :
    s.perform w = exec i s :=
  perform_of_decode (by simp [decode, hmapper, h])

/-- A bus word with no row answers NotClaimed and changes nothing (rule R97 (b)). -/
theorem perform_unclaimed (hmapper : decodeMapper s.mapperId w = none) (hapu : decodeApu w = none)
    (hk : w.kind.toNat < 4) : s.perform w = .next (s.answer .notClaimed) := by
  simp [State.perform, decode, hmapper, hapu, rejectReason, hk, State.rejected]

/-! ### What a read changes -/

/-- Nothing differs but the outputs. -/
def AnswersOnly (s t : State) : Prop := t = { s with out := t.out }

theorem answersOnly_setOut (s : State) (out : Outputs) : AnswersOnly s (s.setOut out) := rfl

theorem answersOnly_finishRead (s : State) (r : MapResult) : AnswersOnly s (s.finishRead r) := rfl

theorem answersOnly_sramRead (s : State) (index : BitVec 13) : AnswersOnly s (s.sramRead index) := rfl

theorem decodeCpuRead_of_rom (hrom : isRomAddr addr = true) :
    decodeCpuRead m addr = some (cpuReadOf m (addr.extractLsb' 0 15)) := by
  unfold decodeCpuRead
  rw [if_pos hrom]
  cases m <;> rfl

theorem exec_cpuReadOf_answersOnly {within : BitVec 15} (h : exec (cpuReadOf m within) s = .next t) :
    AnswersOnly s t := by
  cases m with
  | m0 => exact onM0_elim h (answersOnly_finishRead s _)
  | m1 => exact onM1_elim h fun _ _ => answersOnly_finishRead s _
  | m2 => exact onM2_elim h fun _ _ => answersOnly_finishRead s _
  | m3 => exact onM3_elim h fun _ _ => answersOnly_finishRead s _
  | m4 => exact onM4_elim h fun _ _ => answersOnly_finishRead s _
  | m9 => exact onM9_elim h fun _ _ => answersOnly_finishRead s _

/-- A CPU read answers and changes nothing (rules R64, R161). -/
theorem exec_cpuRead_answersOnly (hi : decodeCpuRead m addr = some i) (h : exec i s = .next t) :
    AnswersOnly s t := by
  by_cases hrom : isRomAddr addr = true
  · cases (decodeCpuRead_of_rom hrom).symm.trans hi
    exact exec_cpuReadOf_answersOnly h
  unfold decodeCpuRead at hi
  rw [if_neg hrom] at hi
  split at hi
  · cases m with
    | m1 => cases hi; exact onM1_elim h fun _ _ => answersOnly_sramRead s _
    | m4 => cases hi; exact onM4_elim h fun _ _ => answersOnly_sramRead s _
    | m0 | m2 | m3 | m9 => cases hi
  · cases hi

/-- A PPU read answers and changes nothing on every mapper but mapper 9 (rules R64, R164). -/
theorem exec_ppuRead_answersOnly (hm : m ≠ .m9) (hi : decodePpuRead m addr = some i)
    (h : exec i s = .next t) : AnswersOnly s t := by
  unfold decodePpuRead at hi
  split at hi
  · cases m with
    | m0 => cases hi; exact onM0_elim h (answersOnly_finishRead s _)
    | m1 => cases hi; exact onM1_elim h fun _ _ => answersOnly_finishRead s _
    | m2 => cases hi; exact onM2_elim h fun _ _ => answersOnly_finishRead s _
    | m3 => cases hi; exact onM3_elim h fun _ _ => answersOnly_finishRead s _
    | m4 => cases hi; exact onM4_elim h fun _ _ => answersOnly_finishRead s _
    | m9 => exact absurd rfl hm
  · cases hi

/-! ### The latches of mapper 9 -/

/-- A PPU address below $2000 is its low 13 bits (rule R67). -/
theorem patternWithin_toNat (h : isPatternAddr addr = true) :
    (addr.extractLsb' 0 13).toNat = addr.toNat :=
  (lowBits_eq_mod addr).trans (Nat.mod_eq_of_lt (isPatternAddr_iff.1 h))

/-- The bits that tell the latch ranges, and the four bits below them, are the whole address. -/
theorem latchBlock_append_low {block : BitVec 9} {within : BitVec 13}
    (h : within.extractLsb' 4 9 = block) : block ++ within.extractLsb' 0 4 = within := by
  rw [← h]
  exact (BitVec.extractLsb'_append_extractLsb'_eq_extractLsb' (start₁ := 0) (len₁ := 4) rfl).trans
    (extract_whole within)

/-- Every PPU read of mapper 9 is the same translation and latch rule (rule R268). -/
theorem exec_decodeM9PpuRead (within : BitVec 13) (s : State) :
    exec (decodeM9PpuRead within) s = m9PpuRead s within := by
  unfold decodeM9PpuRead
  dsimp only
  split_ifs with hblock hblock hblock hblock
  case neg => rfl
  all_goals exact congrArg (m9PpuRead s) (latchBlock_append_low hblock)

/-- `addr[12:4]` is the number of the 16-byte block. -/
theorem latchBlock_eq_iff {within : BitVec 13} {block : BitVec 9} :
    within.extractLsb' 4 9 = block ↔ within.toNat / 16 = block.toNat := by
  have hlt : within.toNat / 16 < 512 := by have := within.isLt; omega
  rw [← BitVec.toNat_inj, BitVec.extractLsb'_toNat, Nat.shiftRight_eq_div_pow]
  exact (Nat.mod_eq_of_lt hlt).symm ▸ Iff.rfl

/-- Outside the four ranges no latch moves (rule R268). -/
theorem M9State.moveLatch_outside {r : M9State} {within : BitVec 13}
    (h0 : ¬ (0x0FD0 ≤ within.toNat ∧ within.toNat ≤ 0x0FEF))
    (h1 : ¬ (0x1FD0 ≤ within.toNat ∧ within.toNat ≤ 0x1FEF)) : r.moveLatch within = r := by
  unfold M9State.moveLatch
  simp only [latchBlock_eq_iff, BitVec.toNat_ofNat]
  rw [if_neg (by omega), if_neg (by omega), if_neg (by omega), if_neg (by omega)]

/-- A read in the upper window leaves the latch of the lower one (rule R268). -/
theorem M9State.moveLatch_latch0 {r : M9State} {within : BitVec 13} (h : 0x1000 ≤ within.toNat) :
    (r.moveLatch within).latch0 = r.latch0 := by
  unfold M9State.moveLatch
  simp only [latchBlock_eq_iff, BitVec.toNat_ofNat]
  rw [if_neg (by omega), if_neg (by omega)]
  split_ifs <;> rfl

/-- A read in the lower window leaves the latch of the upper one (rule R268). -/
theorem M9State.moveLatch_latch1 {r : M9State} {within : BitVec 13} (h : within.toNat < 0x1000) :
    (r.moveLatch within).latch1 = r.latch1 := by
  unfold M9State.moveLatch
  simp only [latchBlock_eq_iff, BitVec.toNat_ofNat]
  split_ifs
  · rfl
  · rfl
  · omega
  · omega
  · rfl

/-- Nothing differs but the outputs and, on mapper 9, what a read at `addr` moves of the latches. -/
def MovesLatch (s t : State) (addr : BitVec 16) : Prop :=
  ∃ (r : M9State) (within : BitVec 13), s.map = .m9 r ∧ within.toNat = addr.toNat ∧
    t = { s with out := t.out, map := .m9 (r.moveLatch within) }

theorem exec_m9PpuRead_movesLatch (hi : decodePpuRead .m9 addr = some i) (h : exec i s = .next t) :
    MovesLatch s t addr := by
  unfold decodePpuRead at hi
  split at hi
  next hpattern =>
    cases hi
    rw [exec_decodeM9PpuRead] at h
    obtain ⟨r, hmap, rfl⟩ := onM9_eq_next.1 h
    exact ⟨r, _, hmap, patternWithin_toNat hpattern, rfl⟩
  · cases hi

/-! ### A word that is a read -/

/-- A bus word that is no CPU write runs a row of the mapper's table, or it is not claimed (rules R92,
R97 (b)). -/
theorem perform_cases (hk : w.kind.toNat < 4) (hwrite : w.kind ≠ kindCpuWrite)
    (h : s.perform w = .next t) :
    t = s.answer .notClaimed ∨ ∃ i, decodeMapper s.mapperId w = some i ∧ exec i s = .next t := by
  cases hrow : decodeMapper s.mapperId w with
  | none =>
    have hanswer := perform_unclaimed hrow (decodeApu_of_not_cpuWrite hk hwrite) hk
    exact .inl (Host.Outcome.next.inj (h.symm.trans hanswer))
  | some i => exact .inr ⟨i, rfl, (perform_of_decodeMapper hrow).symm.trans h⟩

theorem perform_cpuRead (hk : w.kind = kindCpuRead) (h : s.perform w = .next t) : AnswersOnly s t := by
  obtain rfl | ⟨i, hrow, hexec⟩ := perform_cases (by rw [hk]; decide) (by rw [hk]; decide) h
  · exact answersOnly_setOut s _
  · exact exec_cpuRead_answersOnly ((decodeMapper_cpuRead hk).symm.trans hrow) hexec

theorem perform_ppuRead (hk : w.kind = kindPpuRead) (h : s.perform w = .next t) :
    AnswersOnly s t ∨ s.mapperId = .m9 ∧ MovesLatch s t w.addr := by
  obtain rfl | ⟨i, hrow, hexec⟩ := perform_cases (by rw [hk]; decide) (by rw [hk]; decide) h
  · exact .inl (answersOnly_setOut s _)
  rw [decodeMapper_ppuRead hk] at hrow
  by_cases hm : s.mapperId = .m9
  · exact .inr ⟨hm, exec_m9PpuRead_movesLatch (hm ▸ hrow) hexec⟩
  · exact .inl (exec_ppuRead_answersOnly hm hrow hexec)

/-! ### Writes of PRG -/

/-- PRG changes by the CPU write of mapper 0 alone, and only where it is writable (rules R71, R162). -/
theorem BlockEffect.prg_cases (h : BlockEffect s i t) (hcfg : t.cfg = s.cfg) :
    t.prg = s.prg ∨ s.cfg.prgWritable = true ∧ ∃ within value, i = .m0CpuWrite within value := by
  cases h with
  | prgWrite _ hi hwritable => exact .inr ⟨hwritable, _, _, hi⟩
  | kept hblock | registers _ hblock | apu _ hblock | sramWrite _ _ hblock | chrWrite _ _ hblock =>
    exact .inl (State.prg_congr (congrArg Block.prgState hblock :) hcfg)

/-- The word of a decoded write of mapper 0 (rules R92, R98). -/
theorem decode_m0CpuWrite {within : BitVec 15} {value : Byte}
    (h : decode m w = .ok (.m0CpuWrite within value)) :
    m = .m0 ∧ w.kind = kindCpuWrite ∧ 0x8000 ≤ w.addr.toNat := by
  have hrow := decodeMapper_of_decode h nofun
  obtain ⟨hm, hkind⟩ := decodeMapper_isRow hrow
  have hk : w.kind = kindCpuWrite := hkind.symm.trans (Tw.kind_pack _ _ _)
  refine ⟨(Option.some.inj hm).symm, hk, isRomAddr_iff.1 ?_⟩
  cases hm
  rw [decodeMapper_cpuWrite hk] at hrow
  by_contra hrom
  cases (decodeCpuWrite_eq_none hrom fun _ => rfl).symm.trans hrow

/-! ### The reset vector -/

/-- The raw PRG offset that a CPU read from $8000 on has on each mapper (rules R182, R198, R213, R223,
R242, R262). -/
def prgRawOf (c : Cfg) (within : BitVec 15) : MapState → Nat
  | .m0 => fixedPrgRaw c within
  | .m1 r => m1PrgRaw c r within
  | .m2 r => m2PrgRaw c r within
  | .m3 _ => fixedPrgRaw c within
  | .m4 r => m4PrgRaw r within
  | .m9 r => m9PrgRaw c r within

/-- A CPU read from $8000 on answers the byte at that offset, reduced to the array (rule R163). -/
theorem exec_cpuReadOf {map : MapState} (hmap : s.map = map) (within : BitVec 15) :
    exec (cpuReadOf map.id within) s =
      .next (s.finishRead (prgResult s.cfg (prgRawOf s.cfg within map))) := by
  cases map with
  | m0 => exact onM0_of_map hmap _
  | m1 r => exact onM1_of_map hmap _
  | m2 r => exact onM2_of_map hmap _
  | m3 r => exact onM3_of_map hmap _
  | m4 r => exact onM4_of_map hmap _
  | m9 r => exact onM9_of_map hmap _

/-- `Reset` puts the mapper's registers to their reset values, and changes nothing else (rule R300). -/
theorem exec_resetOf {map : MapState} (hmap : s.map = map) :
    exec (resetOf map.id) s = .next (s.setMap (MapState.reset map.id s.cfg)).done := by
  cases map with
  | m0 =>
    have hself : s.setMap .m0 = s := hmap ▸ s.setMap_self
    exact hself.symm ▸ onM0_of_map hmap s.done
  | m1 r => exact onM1_of_map hmap _
  | m2 r => exact onM2_of_map hmap _
  | m3 r => exact onM3_of_map hmap _
  | m4 r => exact onM4_of_map hmap _
  | m9 r => exact onM9_of_map hmap _

theorem MapState.reset_id (m : MapperId) (c : Cfg) : (MapState.reset m c).id = m := by
  cases m <;> rfl

/-- The reset-vector table (rule R304). -/
def resetVectorOffset (prgBanks : Nat) : MapperId → Nat
  | .m0 | .m3 => if prgBanks = 1 then 0x3FFC else 0x7FFC
  | .m1 | .m2 => (prgBanks - 1) * 0x4000 + 0x3FFC
  | .m4 | .m9 => (2 * prgBanks - 1) * 0x2000 + 0x1FFC

theorem resetVectorOffset_lt {c : Cfg} (hbanks : 1 ≤ c.prgBanks) (m : MapperId) :
    resetVectorOffset c.prgBanks m < c.prgSize := by
  unfold Params.prgSize
  cases m with
  | m0 | m3 => simp only [resetVectorOffset]; split <;> omega
  | m1 | m2 | m4 | m9 => simp only [resetVectorOffset]; omega

theorem fixedPrgRaw_vector {c : Cfg} (hbanks : 1 ≤ c.prgBanks) :
    fixedPrgRaw c 0x7FFC#15 = if c.prgBanks = 1 then 0x3FFC else 0x7FFC := by
  unfold fixedPrgRaw
  split_ifs with hmany hone hone
  · omega
  · rfl
  · rfl
  · omega

/-- The upper window of mapper 9 shows the last 8 KiB bank (rule R262). -/
theorem m9PrgRaw_vector {c : Cfg} (hbanks : 1 ≤ c.prgBanks) (r : M9State) :
    m9PrgRaw c r 0x7FFC#15 = (2 * c.prgBanks - 1) * 0x2000 + 0x1FFC := by
  have hlast : (4 * c.prgBanks - 1) % (2 * c.prgBanks) = 2 * c.prgBanks - 1 := by
    rw [show 4 * c.prgBanks - 1 = 2 * c.prgBanks - 1 + 2 * c.prgBanks by omega, Nat.add_mod_right]
    exact Nat.mod_eq_of_lt (by omega)
  exact congrArg (fun bank => bank * 0x2000 + 0x1FFC) hlast

/-- Every mapper shows, after `Reset`, the bank at $FFFC that the table names (rule R304). -/
theorem prgRawOf_reset_vector {c : Cfg} (hbanks : 1 ≤ c.prgBanks) (m : MapperId) :
    prgRawOf c 0x7FFC#15 (MapState.reset m c) = resetVectorOffset c.prgBanks m := by
  cases m with
  | m0 | m3 => exact fixedPrgRaw_vector hbanks
  | m1 | m2 | m4 => rfl
  | m9 => exact m9PrgRaw_vector hbanks _

end

/-! ### The statements -/

/-- Settles O7: the mapper's table has no row for the word, and the APU table has one exactly for a CPU
write to a register address. -/
theorem unownedAccessIsNotClaimed : Obligations.UnownedAccessIsNotClaimed := by
  intro s tr rest hpending hunowned
  have hmapper : decodeMapper (s.begin tr rest).mapperId tr.word = none := decodeMapper_of_unowned hunowned
  have hkind := kind_lt_of_unowned hunowned
  rw [step_eq_perform hpending]
  constructor
  · intro hother
    refine perform_unclaimed hmapper ?_ hkind
    by_cases hwrite : tr.word.kind = kindCpuWrite
    · rw [decodeApu_cpuWrite hwrite]
      exact decodeApuWrite_eq_none_iff.2 (hother.resolve_left (not_not.2 hwrite))
    · exact decodeApu_of_not_cpuWrite hkind hwrite
  · intro hwrite hregister
    obtain ⟨i, hi⟩ : ∃ i, decodeApuWrite tr.word.addr tr.word.data = some i :=
      Option.ne_none_iff_exists'.1 fun hnone => by
        cases hregister.symm.trans (decodeApuWrite_eq_none_iff.1 hnone)
    rw [perform_of_decodeApu hmapper ((decodeApu_cpuWrite hwrite).trans hi)]
    exact exec_apuWrite hi _

/-- Settles O18: a read answers and changes nothing, or it is a PPU read of mapper 9, which follows the
latch rule. -/
theorem readsHaveNoOtherSideEffect : Obligations.ReadsHaveNoOtherSideEffect := by
  intro s u tr rest hpending hstep
  have hperform := (step_eq_perform hpending).symm.trans hstep
  refine ⟨fun hk => perform_cpuRead hk hperform, fun hk hno => ?_, fun hk r hr => ?_⟩
  · obtain hanswer | ⟨hm, r, within, hr, haddr, hu⟩ := perform_ppuRead hk hperform
    · exact hanswer
    · obtain ⟨h0, h1⟩ := hno.resolve_left (not_not.2 hm)
      rw [M9State.moveLatch_outside (haddr ▸ h0) (haddr ▸ h1), ← hr] at hu
      exact hu
  · obtain hanswer | ⟨-, r', within, hr', haddr, hu⟩ := perform_ppuRead hk hperform
    · exact ⟨r.latch0, r.latch1, hr ▸ hanswer, fun _ => rfl, fun _ => rfl⟩
    · cases hr.symm.trans hr'
      rw [M9State.moveLatch_frame] at hu
      exact ⟨_, _, hu, fun hlow => M9State.moveLatch_latch0 (haddr ▸ hlow),
        fun hhigh => M9State.moveLatch_latch1 (haddr ▸ hhigh)⟩

/-- Settles O19: of the effects on the block only mapper 0's CPU write changes PRG. -/
theorem prgIsWrittenOnlyByMapperZero : Obligations.PrgIsWrittenOnlyByMapperZero := by
  intro s u hstep hne
  have hcfg : u.cfg = s.cfg := (step_keeps_cfg_and_mapId hstep).1
  obtain hblock | ⟨tr, rest, i, hpending, hdecode, heffect⟩ := step_blockEffect hstep
  · exact absurd (State.prg_congr (congrArg Block.prgState hblock) hcfg) hne
  obtain hkept | ⟨hwritable, within, value, rfl⟩ := heffect.prg_cases hcfg
  · exact absurd hkept hne
  obtain ⟨hm, hkind, haddr⟩ := decode_m0CpuWrite hdecode
  exact ⟨hm, hwritable, tr, rest, hpending, hkind, haddr⟩

/-- Settles O32: the offset that the table names is inside PRG, so reducing it to the array leaves it. -/
theorem resetVectorOffsetOfEachMapper : Obligations.ResetVectorOffsetOfEachMapper := by
  intro s hbanks
  have hread := exec_cpuReadOf (s := (s.setMap (MapState.reset s.map.id s.cfg)).done)
    (map := MapState.reset s.map.id s.cfg) rfl 0x7FFC#15
  rw [MapState.reset_id] at hread
  have hoffset : wrapPrg s.cfg (prgRawOf s.cfg 0x7FFC#15 (MapState.reset s.map.id s.cfg)) =
      resetVectorOffset s.cfg.prgBanks s.map.id :=
    (congrArg (wrapPrg s.cfg) (prgRawOf_reset_vector hbanks _)).trans
      (Nat.mod_eq_of_lt (resetVectorOffset_lt hbanks _))
  refine ⟨_, _, _, exec_resetOf rfl, hread, congrArg (fun off => Response.read (.offset .prg off) _) ?_⟩
  refine hoffset.trans ?_
  cases s.map.id <;> rfl

end Sys2Proof.Machine
end

section
/-! PROOFS. The statements of `30_encoding.md`, first part: the fields of an encoded word, and that each table
decodes the words of its operations. -/

namespace Sys2Proof.Machine

open Stated

/-! ### The fields of the bytes that formats pack -/

/-- A bit of the high part of a concatenation. -/
theorem bit_append_high {n k : Nat} (x : BitVec n) (y : BitVec k) (i : Nat) :
    (x ++ y).getLsbD (k + i) = x.getLsbD i := by
  simp [BitVec.getLsbD_append]

/-- A single bit between two parts of a concatenation. -/
theorem bit_append_ofBool {n k : Nat} (x : BitVec n) (b : Bool) (y : BitVec k) :
    (x ++ BitVec.ofBool b ++ y).getLsbD k = b :=
  (bit_append_high (x ++ BitVec.ofBool b) y 0).trans (by rw [BitVec.getLsbD_append]; cases b <;> rfl)

theorem envByte_fields (duty : BitVec 2) (halt constant : Bool) (volume : BitVec 4) :
    (envByte duty halt constant volume).extractLsb' 6 2 = duty ∧
      (envByte duty halt constant volume).getLsbD 5 = halt ∧
      (envByte duty halt constant volume).getLsbD 4 = constant ∧
      (envByte duty halt constant volume).extractLsb' 0 4 = volume := by
  refine ⟨?_, ?_, bit_append_ofBool _ constant volume, extract_append_low _ volume⟩
  · calc (envByte duty halt constant volume).extractLsb' 6 2
        = (duty ++ BitVec.ofBool halt ++ BitVec.ofBool constant).extractLsb' 2 2 := extract_append_high _ volume 2 2
      _ = (duty ++ BitVec.ofBool halt).extractLsb' 1 2 := extract_append_high _ (BitVec.ofBool constant) 1 2
      _ = duty.extractLsb' 0 2 := extract_append_high duty _ 0 2
      _ = duty := extract_whole duty
  · exact (bit_append_high _ volume 1).trans (bit_append_ofBool duty halt (BitVec.ofBool constant))

theorem lenByte_fields (index : BitVec 5) (timerHigh : BitVec 3) :
    (lenByte index timerHigh).extractLsb' 3 5 = index ∧ (lenByte index timerHigh).extractLsb' 0 3 = timerHigh :=
  ⟨(extract_append_high index timerHigh 0 5).trans (extract_whole index), extract_append_low index timerHigh⟩

theorem m4SelectByte_fields (chrInv prgMode : Bool) (target : BitVec 3) :
    (m4SelectByte chrInv prgMode target).getLsbD 7 = chrInv ∧
      (m4SelectByte chrInv prgMode target).getLsbD 6 = prgMode ∧
      (m4SelectByte chrInv prgMode target).extractLsb' 0 3 = target := by
  revert chrInv prgMode target
  decide

theorem mirrorByte_field (horizontal : Bool) : (mirrorByte horizontal).getLsbD 0 = horizontal := by
  cases horizontal <;> rfl

theorem linearByte_fields (halt : Bool) (reload : BitVec 7) :
    (BitVec.ofBool halt ++ reload).getLsbD 7 = halt ∧ (BitVec.ofBool halt ++ reload).extractLsb' 0 7 = reload :=
  ⟨(bit_append_high (BitVec.ofBool halt) reload 0).trans (by cases halt <;> rfl), extract_append_low _ reload⟩

theorem statusByte_fields (dmc noise triangle pulse2 pulse1 : Bool) :
    (statusByte dmc noise triangle pulse2 pulse1).getLsbD 4 = dmc ∧
      (statusByte dmc noise triangle pulse2 pulse1).getLsbD 3 = noise ∧
      (statusByte dmc noise triangle pulse2 pulse1).getLsbD 2 = triangle ∧
      (statusByte dmc noise triangle pulse2 pulse1).getLsbD 1 = pulse2 ∧
      (statusByte dmc noise triangle pulse2 pulse1).getLsbD 0 = pulse1 := by
  revert dmc noise triangle pulse2 pulse1
  decide

/-! ### The tables, by the kind of the word -/

section

variable {m : MapperId} {addr : BitVec 16} {data : Byte} {w : Tw} {i : Instr}

theorem decode_of_decodeMapper (h : decodeMapper m w = some i) : decode m w = .ok i := by
  simp [decode, h]

theorem decode_of_decodeApu (hmapper : decodeMapper m w = none) (h : decodeApu w = some i) :
    decode m w = .ok i := by
  simp [decode, hmapper, h]

theorem decodeMapper_event (hk : w.kind = kindEvent) :
    decodeMapper m w = if w.addr = 0#16 then decodeMapperEvent m w.data else none := by
  unfold decodeMapper
  rw [hk]
  rfl

theorem decodeApu_event (hk : w.kind = kindEvent) :
    decodeApu w = if w.addr = 0#16 then decodeApuEvent w.data else none := by
  unfold decodeApu
  rw [hk]
  rfl

theorem decodeMapper_encodeEvent (number : Byte) :
    decodeMapper m (encodeEvent number) = decodeMapperEvent m number := by
  rw [encodeEvent, decodeMapper_event (Tw.kind_pack _ _ _), Tw.addr_pack, Tw.data_pack]
  rfl

theorem decodeMapper_encodeCpuRead (addr : BitVec 16) :
    decodeMapper m (encodeCpuRead addr) = decodeCpuRead m addr := by
  rw [encodeCpuRead, decodeMapper_cpuRead (Tw.kind_pack _ _ _), Tw.addr_pack]

theorem decodeMapper_encodeCpuWrite (addr : BitVec 16) (data : Byte) :
    decodeMapper m (encodeCpuWrite addr data) = decodeCpuWrite m addr data := by
  rw [encodeCpuWrite, decodeMapper_cpuWrite (Tw.kind_pack _ _ _), Tw.addr_pack, Tw.data_pack]

theorem decodeMapper_encodePpuRead (within : BitVec 13) :
    decodeMapper m (encodePpuRead within) = decodePpuRead m (patternAddr within) := by
  rw [encodePpuRead, decodeMapper_ppuRead (Tw.kind_pack _ _ _), Tw.addr_pack]

theorem decodeMapper_encodePpuWrite (within : BitVec 13) (data : Byte) :
    decodeMapper m (encodePpuWrite within data) = decodePpuWrite m (patternAddr within) data := by
  rw [encodePpuWrite, decodeMapper_ppuWrite (Tw.kind_pack _ _ _), Tw.addr_pack, Tw.data_pack]

/-! ### The addresses that the encoder packs -/

theorem isRomAddr_romAddr (within : BitVec 15) : isRomAddr (romAddr within) = true :=
  beq_iff_eq.2 (extract_append_high 1#1 within 0 1)

theorem isSramAddr_sramAddr (index : BitVec 13) : isSramAddr (sramAddr index) = true :=
  beq_iff_eq.2 (extract_append_high 3#3 index 0 3)

theorem isRomAddr_sramAddr (index : BitVec 13) : isRomAddr (sramAddr index) = false :=
  beq_eq_false_iff_ne.2 (ne_of_eq_of_ne (extract_append_high 3#3 index 2 1) (by decide))

theorem isPatternAddr_patternAddr (within : BitVec 13) : isPatternAddr (patternAddr within) = true :=
  beq_iff_eq.2 (extract_append_high 0#3 within 0 3)

theorem romAddr_field (within : BitVec 15) : (romAddr within).extractLsb' 0 15 = within :=
  extract_append_low 1#1 within

theorem sramAddr_field (index : BitVec 13) : (sramAddr index).extractLsb' 0 13 = index :=
  extract_append_low 3#3 index

theorem patternAddr_field (within : BitVec 13) : (patternAddr within).extractLsb' 0 13 = within :=
  extract_append_low 0#3 within

/-! ### What the encoder's words are in the mapper's table -/

theorem decodeMapper_romRead (within : BitVec 15) :
    decodeMapper m (encodeCpuRead (romAddr within)) = some (cpuReadOf m within) := by
  rw [decodeMapper_encodeCpuRead, decodeCpuRead_of_rom (isRomAddr_romAddr within), romAddr_field]

/-- The operation of a CPU write from $8000 on, by the mapper (rules R66, R94). -/
def romWriteOf (addr : BitVec 16) (data : Byte) : MapperId → Instr
  | .m0 => .m0CpuWrite (addr.extractLsb' 0 15) data
  | .m1 =>
    if data.getLsbD 7 then .m1SerialReset
    else .m1SerialShift (data.extractLsb' 0 1) (addr.extractLsb' 13 2)
  | .m2 => .m2BankSelect (data.extractLsb' 0 4)
  | .m3 => .m3ChrSelect (data.extractLsb' 0 2)
  | .m4 => decodeM4Write addr data
  | .m9 => decodeM9Write addr data

theorem decodeCpuWrite_of_rom (hrom : isRomAddr addr = true) :
    decodeCpuWrite m addr data = some (romWriteOf addr data m) := by
  unfold decodeCpuWrite
  rw [if_pos hrom]
  cases m with
  | m1 => exact (apply_ite some _ _ _).symm
  | m0 | m2 | m3 | m4 | m9 => rfl

theorem decodeMapper_romWrite (hrom : isRomAddr addr = true) :
    decodeMapper m (encodeCpuWrite addr data) = some (romWriteOf addr data m) := by
  rw [decodeMapper_encodeCpuWrite, decodeCpuWrite_of_rom hrom]

theorem decodeMapper_sramRead (index : BitVec 13) :
    decodeMapper .m1 (encodeCpuRead (sramAddr index)) = some (.m1SramRead index) ∧
      decodeMapper .m4 (encodeCpuRead (sramAddr index)) = some (.m4SramRead index) := by
  simp [decodeMapper_encodeCpuRead, decodeCpuRead, isRomAddr_sramAddr, isSramAddr_sramAddr, sramAddr_field]

theorem decodeMapper_sramWrite (index : BitVec 13) (value : Byte) :
    decodeMapper .m1 (encodeCpuWrite (sramAddr index) value) = some (.m1SramWrite index value) ∧
      decodeMapper .m4 (encodeCpuWrite (sramAddr index) value) = some (.m4SramWrite index value) := by
  simp [decodeMapper_encodeCpuWrite, decodeCpuWrite, isRomAddr_sramAddr, isSramAddr_sramAddr, sramAddr_field]

theorem decodeMapper_serialShift (bit : BitVec 1) (target : BitVec 2) :
    decodeMapper .m1 (encodeCpuWrite (1#1 ++ target ++ 0#13) (0#7 ++ bit)) =
      some (.m1SerialShift bit target) := by
  have hrom : isRomAddr (1#1 ++ target ++ 0#13) = true :=
    beq_iff_eq.2 ((extract_append_high (1#1 ++ target) 0#13 2 1).trans (extract_append_high 1#1 target 0 1))
  have htarget : (1#1 ++ target ++ 0#13).extractLsb' 13 2 = target :=
    (extract_append_high (1#1 ++ target) 0#13 0 2).trans (extract_append_low 1#1 target)
  have hbit : (0#7 ++ bit).extractLsb' 0 1 = bit := extract_append_low 0#7 bit
  have hseven : ¬ (0#7 ++ bit).getLsbD 7 = true := by rw [bit_append_high 0#7 bit 6]; decide
  rw [decodeMapper_romWrite hrom, romWriteOf, if_neg hseven, hbit, htarget]

/-- The PPU read of each mapper's table. -/
def ppuReadOf (within : BitVec 13) : MapperId → Instr
  | .m0 => .m0PpuRead within
  | .m1 => .m1PpuRead within
  | .m2 => .m2PpuRead within
  | .m3 => .m3PpuRead within
  | .m4 => .m4PpuRead within
  | .m9 => decodeM9PpuRead within

theorem decodePpuRead_of_pattern (hpattern : isPatternAddr addr = true) :
    decodePpuRead m addr = some (ppuReadOf (addr.extractLsb' 0 13) m) := by
  unfold decodePpuRead
  rw [if_pos hpattern]
  cases m <;> rfl

theorem decodeMapper_patternRead (within : BitVec 13) :
    decodeMapper m (encodePpuRead within) = some (ppuReadOf within m) := by
  rw [decodeMapper_encodePpuRead, decodePpuRead_of_pattern (isPatternAddr_patternAddr within),
    patternAddr_field]

/-- The PPU write of each mapper's table. -/
def ppuWriteOf (within : BitVec 13) (value : Byte) : MapperId → Instr
  | .m0 => .m0PpuWrite within value
  | .m1 => .m1PpuWrite within value
  | .m2 => .m2PpuWrite within value
  | .m3 => .m3PpuWrite within value
  | .m4 => .m4PpuWrite within value
  | .m9 => .m9PpuWrite within value

theorem decodePpuWrite_of_pattern (hpattern : isPatternAddr addr = true) :
    decodePpuWrite m addr data = some (ppuWriteOf (addr.extractLsb' 0 13) data m) := by
  unfold decodePpuWrite
  rw [if_pos hpattern]
  cases m <;> rfl

theorem decodeMapper_patternWrite (within : BitVec 13) (value : Byte) :
    decodeMapper m (encodePpuWrite within value) = some (ppuWriteOf within value m) := by
  rw [decodeMapper_encodePpuWrite, decodePpuWrite_of_pattern (isPatternAddr_patternAddr within),
    patternAddr_field]

/-- A block of 16 addresses is told by the bits above the lowest four. -/
theorem decodeM9PpuRead_block (block : BitVec 9) (low : BitVec 4) :
    decodeM9PpuRead (block ++ low) =
      if block = 0x0FD#9 then .m9PpuReadFd0 low
      else if block = 0x0FE#9 then .m9PpuReadFe0 low
      else if block = 0x1FD#9 then .m9PpuReadFd1 low
      else if block = 0x1FE#9 then .m9PpuReadFe1 low
      else .m9PpuRead (block ++ low) := by
  have hblock : (block ++ low).extractLsb' 4 9 = block :=
    (extract_append_high block low 0 9).trans (extract_whole block)
  have hlow : (block ++ low).extractLsb' 0 4 = low := extract_append_low block low
  simp only [decodeM9PpuRead, hblock, hlow]

theorem wellFormed_m9PpuRead_iff {within : BitVec 13} : (Instr.m9PpuRead within).wellFormed = true ↔
    within.extractLsb' 4 9 ≠ 0x0FD#9 ∧ within.extractLsb' 4 9 ≠ 0x0FE#9 ∧
      within.extractLsb' 4 9 ≠ 0x1FD#9 ∧ within.extractLsb' 4 9 ≠ 0x1FE#9 := by
  simp [Instr.wellFormed, isSentinelRange, and_assoc]

/-- Outside the four latch ranges the general row is decoded (rules R93, R268). -/
theorem decodeM9PpuRead_of_wellFormed {within : BitVec 13} (h : (Instr.m9PpuRead within).wellFormed = true) :
    decodeM9PpuRead within = .m9PpuRead within := by
  obtain ⟨h0, h1, h2, h3⟩ := wellFormed_m9PpuRead_iff.1 h
  rw [decodeM9PpuRead, if_neg h0, if_neg h1, if_neg h2, if_neg h3]

/-- Every well-formed operation of a mapper's table is decoded by it from its word. -/
theorem decodeMapper_encode (hwf : i.wellFormed = true) (hm : i.mapper = some m) :
    decodeMapper m (encode i) = some i := by
  cases i with
  | m0CpuRead within | m1CpuRead within | m2CpuRead within | m3CpuRead within | m4CpuRead within
  | m9CpuRead within => cases hm; exact decodeMapper_romRead within
  | m0PpuRead within | m1PpuRead within | m2PpuRead within | m3PpuRead within | m4PpuRead within =>
    cases hm; exact decodeMapper_patternRead within
  | m9PpuRead within =>
    cases hm
    exact (decodeMapper_patternRead within).trans (congrArg some (decodeM9PpuRead_of_wellFormed hwf))
  | m9PpuReadFd0 low | m9PpuReadFe0 low | m9PpuReadFd1 low | m9PpuReadFe1 low =>
    cases hm
    exact (decodeMapper_patternRead _).trans (congrArg some (decodeM9PpuRead_block _ low))
  | m0PpuWrite within value | m1PpuWrite within value | m2PpuWrite within value
  | m3PpuWrite within value | m4PpuWrite within value | m9PpuWrite within value =>
    cases hm; exact decodeMapper_patternWrite within value
  | m1SramRead index => cases hm; exact (decodeMapper_sramRead index).1
  | m4SramRead index => cases hm; exact (decodeMapper_sramRead index).2
  | m1SramWrite index value => cases hm; exact (decodeMapper_sramWrite index value).1
  | m4SramWrite index value => cases hm; exact (decodeMapper_sramWrite index value).2
  | m0CpuWrite within value =>
    cases hm
    refine (decodeMapper_romWrite (isRomAddr_romAddr within)).trans ?_
    rw [romWriteOf, romAddr_field]
  | m1SerialShift bit target =>
    cases hm; exact decodeMapper_serialShift bit target
  | m2BankSelect bank | m9PrgSelect bank =>
    cases hm
    conv_rhs => rw [← extract_append_low 0#4 bank]
    exact decodeMapper_romWrite rfl
  | m3ChrSelect bank =>
    cases hm
    conv_rhs => rw [← extract_append_low 0#6 bank]
    exact decodeMapper_romWrite rfl
  | m9ChrFd0 bank | m9ChrFe0 bank | m9ChrFd1 bank | m9ChrFe1 bank =>
    cases hm
    conv_rhs => rw [← extract_append_low 0#3 bank]
    exact decodeMapper_romWrite rfl
  | m4Mirror horizontal | m9Mirror horizontal =>
    cases hm
    conv_rhs => rw [← mirrorByte_field horizontal]
    exact decodeMapper_romWrite rfl
  | m4BankSelect chrInv prgMode target =>
    cases hm
    obtain ⟨hchrInv, hprgMode, htarget⟩ := m4SelectByte_fields chrInv prgMode target
    refine (decodeMapper_romWrite rfl).trans ?_
    simp only [romWriteOf, decodeM4Write, hchrInv, hprgMode, htarget]
    rfl
  | m1SerialReset | m4BankData | m4RamProtect | m4IrqLatch | m4IrqReload | m4IrqDisable
  | m4IrqEnable | m9NopWrite => cases hm; exact decodeMapper_romWrite rfl
  | m0Reset | m0MirrorQ | m0Scanline | m0IrqState | m0IrqClear | m1Reset | m1MirrorQ | m1Scanline
  | m1IrqState | m1IrqClear | m2Reset | m2MirrorQ | m2Scanline | m2IrqState | m2IrqClear | m3Reset
  | m3MirrorQ | m3Scanline | m3IrqState | m3IrqClear | m4Reset | m4MirrorQ | m4Scanline | m4IrqState
  | m4IrqClear | m9Reset | m9MirrorQ | m9Scanline | m9IrqState | m9IrqClear =>
    cases hm; exact decodeMapper_encodeEvent _
  | _ => cases hm

/-! ### What the encoder's words are in the APU table -/

theorem decodeApu_encodeCpuWrite (addr : BitVec 16) (data : Byte) :
    decodeApu (encodeCpuWrite addr data) = decodeApuWrite addr data := by
  rw [encodeCpuWrite, decodeApu_cpuWrite (Tw.kind_pack _ _ _), Tw.addr_pack, Tw.data_pack]

theorem decodeApu_encodeEvent (number : Byte) : decodeApu (encodeEvent number) = decodeApuEvent number := by
  rw [encodeEvent, decodeApu_event (Tw.kind_pack _ _ _), Tw.addr_pack, Tw.data_pack]
  rfl

/-- Every operation of the APU table is decoded by it from its word. -/
theorem decodeApu_encode (hi : i.mapper = none) : decodeApu (encode i) = some i := by
  cases i with
  | apuP1Env duty halt constant volume | apuP2Env duty halt constant volume =>
    obtain ⟨hduty, hhalt, hconstant, hvolume⟩ := envByte_fields duty halt constant volume
    refine (decodeApu_encodeCpuWrite _ _).trans ?_
    simp only [decodeApuWrite, hduty, hhalt, hconstant, hvolume]
    rfl
  | apuNoiEnv halt constant volume =>
    obtain ⟨-, hhalt, hconstant, hvolume⟩ := envByte_fields 0#2 halt constant volume
    refine (decodeApu_encodeCpuWrite _ _).trans ?_
    simp only [decodeApuWrite, hhalt, hconstant, hvolume]
    rfl
  | apuP1Len index timerHigh | apuP2Len index timerHigh | apuTriLen index timerHigh =>
    obtain ⟨hindex, htimer⟩ := lenByte_fields index timerHigh
    refine (decodeApu_encodeCpuWrite _ _).trans ?_
    simp only [decodeApuWrite, hindex, htimer]
    rfl
  | apuNoiLen index =>
    conv_rhs => rw [← (lenByte_fields index 0#3).1]
    exact decodeApu_encodeCpuWrite _ _
  | apuTriLinear halt reload =>
    obtain ⟨hhalt, hreload⟩ := linearByte_fields halt reload
    refine (decodeApu_encodeCpuWrite _ _).trans ?_
    simp only [decodeApuWrite, hhalt, hreload]
    rfl
  | apuStatus dmc noise triangle pulse2 pulse1 =>
    obtain ⟨hdmc, hnoise, htriangle, hpulse2, hpulse1⟩ := statusByte_fields dmc noise triangle pulse2 pulse1
    refine (decodeApu_encodeCpuWrite _ _).trans ?_
    simp only [decodeApuWrite, hdmc, hnoise, htriangle, hpulse2, hpulse1]
    rfl
  | apuP1Sweep | apuP2Sweep | apuP1Tlo | apuP2Tlo | apuTriTlo | apuNoiPeriod | apuUnused4009
  | apuUnused400d | apuDmc0 | apuDmc1 | apuDmc2 | apuDmc3 | apuFrame =>
    exact decodeApu_encodeCpuWrite _ _
  | sysTick | apuTick | apuQuarter | apuHalf | apuMix | apuReset => exact decodeApu_encodeEvent _
  | _ => cases hi

/-- A mapper's table has no row for a CPU write below $6000 (rule R171). -/
theorem decodeMapper_lowWrite (haddr : addr.toNat < 0x6000) :
    decodeMapper m (encodeCpuWrite addr data) = none := by
  have hk : (encodeCpuWrite addr data).kind = kindCpuWrite := Tw.kind_pack _ _ _
  have ha : (encodeCpuWrite addr data).addr = addr := Tw.addr_pack _ _ _
  exact decodeMapper_of_unowned (isUnowned_iff.2 (.inl ⟨.inr hk, .inl (ha.symm ▸ haddr)⟩))

theorem decodeMapperEvent_eq_none (h : 5 ≤ data.toNat) : decodeMapperEvent m data = none := by
  unfold decodeMapperEvent
  split
  case h_6 => rfl
  all_goals omega

/-- No mapper's table has a row for a word of the APU table (rule R93). -/
theorem decodeMapper_encode_of_apu (hi : i.mapper = none) : decodeMapper m (encode i) = none := by
  cases i with
  | apuP1Env | apuP2Env | apuNoiEnv | apuP1Len | apuP2Len | apuTriLen | apuNoiLen | apuTriLinear
  | apuP1Tlo | apuP2Tlo | apuTriTlo | apuNoiPeriod | apuUnused4009 | apuUnused400d | apuDmc0
  | apuDmc1 | apuDmc2 | apuDmc3 | apuStatus | apuFrame | apuP1Sweep | apuP2Sweep =>
    exact decodeMapper_lowWrite (by decide)
  | sysTick | apuTick | apuQuarter | apuHalf | apuMix | apuReset =>
    exact (decodeMapper_encodeEvent _).trans (decodeMapperEvent_eq_none (by decide))
  | _ => cases hi

end

/-! ### The statement -/

/-- Settles O1: the word of an operation of the mapper's table is decoded there, and the word of an operation of
the APU table has no row in the mapper's table. -/
theorem decodeOfEncodeIsTheInstruction : Obligations.DecodeOfEncodeIsTheInstruction := by
  intro m i hwf hm
  obtain hapu | hmapper := hm
  · exact decode_of_decodeApu (decodeMapper_encode_of_apu hapu) (decodeApu_encode hapu)
  · exact decode_of_decodeMapper (decodeMapper_encode hwf hmapper)

end Sys2Proof.Machine
end

section
/-! PROOFS. The statements of `30_encoding.md`, second part: the operands of a decoded instruction are fields of
its word. -/

namespace Sys2Proof.Machine

open Stated

/-! ### The operands of a decoded instruction -/

/-- The instruction is well formed and its operands are the fields of the word (rules R94, R95). -/
def IsReadFrom (w : Tw) (i : Instr) : Prop := i.wellFormed = true ∧ FieldsAre w i

section

variable {m : MapperId} {w : Tw} {i : Instr}

theorem field_eq_div_mod {n : Nat} (x : BitVec n) (lo len : Nat) :
    (x.extractLsb' lo len).toNat = x.toNat / 2 ^ lo % 2 ^ len := by
  rw [BitVec.extractLsb'_toNat, Nat.shiftRight_eq_div_pow]

/-- A field that reaches the top of the word is a quotient. -/
theorem topField_eq_div {n : Nat} (x : BitVec n) (lo len : Nat) (h : lo + len = n) :
    (x.extractLsb' lo len).toNat = x.toNat / 2 ^ lo := by
  have hlt : x.toNat / 2 ^ lo < 2 ^ len :=
    Nat.div_lt_of_lt_mul (by rw [← Nat.pow_add, h]; exact x.isLt)
  rw [field_eq_div_mod, Nat.mod_eq_of_lt hlt]

theorem decodeCpuRead_isReadFrom (h : decodeCpuRead m w.addr = some i) : IsReadFrom w i := by
  unfold decodeCpuRead at h
  split at h
  · cases m <;> cases h <;> exact ⟨rfl, lowBits_eq_mod w.addr⟩
  · split at h
    · cases m <;> cases h <;> exact ⟨rfl, lowBits_eq_mod w.addr⟩
    · cases h

theorem decodeM4Write_isReadFrom (w : Tw) : IsReadFrom w (decodeM4Write w.addr w.data) := by
  unfold decodeM4Write
  split
  case h_1 => exact ⟨rfl, rfl, rfl, lowBits_eq_mod w.data⟩
  case h_2 | h_3 | h_5 => exact ⟨rfl, rfl⟩
  case h_4 | h_6 | h_7 | h_8 => exact ⟨rfl, trivial⟩

theorem decodeM9Write_isReadFrom (w : Tw) : IsReadFrom w (decodeM9Write w.addr w.data) := by
  unfold decodeM9Write
  split
  case h_1 | h_2 | h_3 | h_4 | h_5 => exact ⟨rfl, lowBits_eq_mod w.data⟩
  case h_6 => exact ⟨rfl, rfl⟩
  case h_7 => exact ⟨rfl, trivial⟩

theorem romWriteOf_isReadFrom (w : Tw) (m : MapperId) : IsReadFrom w (romWriteOf w.addr w.data m) := by
  cases m with
  | m0 => exact ⟨rfl, lowBits_eq_mod w.addr, rfl⟩
  | m1 =>
    dsimp only [romWriteOf]
    split
    · exact ⟨rfl, trivial⟩
    · exact ⟨rfl, lowBits_eq_mod w.data, field_eq_div_mod w.addr 13 2⟩
  | m2 | m3 => exact ⟨rfl, lowBits_eq_mod w.data⟩
  | m4 => exact decodeM4Write_isReadFrom w
  | m9 => exact decodeM9Write_isReadFrom w

theorem decodeCpuWrite_isReadFrom (h : decodeCpuWrite m w.addr w.data = some i) : IsReadFrom w i := by
  by_cases hrom : isRomAddr w.addr = true
  · cases (decodeCpuWrite_of_rom hrom).symm.trans h
    exact romWriteOf_isReadFrom w m
  unfold decodeCpuWrite at h
  rw [if_neg hrom] at h
  split at h
  · cases m <;> cases h <;> exact ⟨rfl, lowBits_eq_mod w.addr, rfl⟩
  · cases h

/-- The general PPU read of mapper 9 is decoded outside the latch ranges alone (rule R93). -/
theorem decodeM9PpuRead_isReadFrom (hpattern : isPatternAddr w.addr = true) :
    IsReadFrom w (decodeM9PpuRead (w.addr.extractLsb' 0 13)) := by
  have hlow : ((w.addr.extractLsb' 0 13).extractLsb' 0 4).toNat = w.addr.toNat % 16 := by
    rw [field_eq_div_mod, patternWithin_toNat hpattern]; omega
  unfold decodeM9PpuRead
  dsimp only
  split_ifs with h0 h1 h2 h3
  case neg =>
    exact ⟨wellFormed_m9PpuRead_iff.2 ⟨h0, h1, h2, h3⟩, patternWithin_toNat hpattern⟩
  all_goals exact ⟨rfl, hlow⟩

theorem decodePpuRead_isReadFrom (h : decodePpuRead m w.addr = some i) : IsReadFrom w i := by
  unfold decodePpuRead at h
  split at h
  next hpattern =>
    cases m with
    | m0 | m1 | m2 | m3 | m4 => cases h; exact ⟨rfl, patternWithin_toNat hpattern⟩
    | m9 => cases h; exact decodeM9PpuRead_isReadFrom hpattern
  · cases h

theorem decodePpuWrite_isReadFrom (h : decodePpuWrite m w.addr w.data = some i) : IsReadFrom w i := by
  unfold decodePpuWrite at h
  split at h
  next hpattern => cases m <;> cases h <;> exact ⟨rfl, patternWithin_toNat hpattern, rfl⟩
  · cases h

theorem decodeMapperEvent_isReadFrom {number : Byte} (h : decodeMapperEvent m number = some i) :
    IsReadFrom w i := by
  unfold decodeMapperEvent at h
  split at h <;> cases m <;> cases h <;> exact ⟨rfl, trivial⟩

theorem decodeMapper_isReadFrom (h : decodeMapper m w = some i) : IsReadFrom w i := by
  unfold decodeMapper at h
  split at h
  · exact decodeCpuRead_isReadFrom h
  · exact decodeCpuWrite_isReadFrom h
  · exact decodePpuRead_isReadFrom h
  · exact decodePpuWrite_isReadFrom h
  · split at h
    · exact decodeMapperEvent_isReadFrom h
    · cases h
  · cases h

theorem decodeApuWrite_isReadFrom (h : decodeApuWrite w.addr w.data = some i) : IsReadFrom w i := by
  have hindex := topField_eq_div w.data 3 5 rfl
  have hduty := topField_eq_div w.data 6 2 rfl
  unfold decodeApuWrite at h
  split at h <;> cases h
  case h_1 | h_5 => exact ⟨rfl, hduty, rfl, rfl, lowBits_eq_mod w.data⟩
  case h_4 | h_8 | h_12 => exact ⟨rfl, hindex, lowBits_eq_mod w.data⟩
  case h_9 => exact ⟨rfl, rfl, lowBits_eq_mod w.data⟩
  case h_13 => exact ⟨rfl, rfl, rfl, lowBits_eq_mod w.data⟩
  case h_16 => exact ⟨rfl, hindex⟩
  case h_21 => exact ⟨rfl, rfl, rfl, rfl, rfl, rfl⟩
  all_goals exact ⟨rfl, rfl⟩

theorem decodeApuEvent_isReadFrom {number : Byte} (h : decodeApuEvent number = some i) :
    IsReadFrom w i := by
  unfold decodeApuEvent at h
  split at h <;> cases h <;> exact ⟨rfl, trivial⟩

theorem decodeApu_isReadFrom (h : decodeApu w = some i) : IsReadFrom w i := by
  unfold decodeApu at h
  split at h
  · exact decodeApuWrite_isReadFrom h
  · split at h
    · exact decodeApuEvent_isReadFrom h
    · cases h
  · cases h

/-- What is decoded is an operation of the mapper's table or of the APU table (rule R92). -/
theorem decode_cases (h : decode m w = .ok i) : decodeMapper m w = some i ∨ decodeApu w = some i := by
  unfold decode at h
  split at h
  next hmapper => cases h; exact .inl hmapper
  · split at h
    next hapu => cases h; exact .inr hapu
    · cases h

end

/-! ### The statement -/

/-- Settles O3: both tables read the operands from the word, and each holds its own operations alone. -/
theorem decodedOperandsAreTheFieldsOfTheWord : Obligations.DecodedOperandsAreTheFieldsOfTheWord := by
  intro m w i hdecode
  obtain hmapper | hapu := decode_cases hdecode
  · obtain ⟨hwf, hfields⟩ := decodeMapper_isReadFrom hmapper
    exact ⟨hwf, .inr (decodeMapper_isRow hmapper).1, hfields⟩
  · obtain ⟨hwf, hfields⟩ := decodeApu_isReadFrom hapu
    exact ⟨hwf, .inl (decodeApu_mapper hapu), hfields⟩

end Sys2Proof.Machine
end

section
/-! PROOFS. The statements of `30_encoding.md`, third part: which rows of the opcode map overlap. -/

namespace Sys2Proof.Machine

open Stated

/-! ### Rows that match one word -/

/-- One word can match both rows: their patterns agree where both masks look. -/
def rowsOverlap (r r' : OpcodeRow) : Bool :=
  BitVec.ofNat 27 r.pat &&& BitVec.ofNat 27 r'.mask == BitVec.ofNat 27 r'.pat &&& BitVec.ofNat 27 r.mask

theorem rowsOverlap_of_matchesWord {r r' : OpcodeRow} {w : Tw} (h : r.matchesWord w = true)
    (h' : r'.matchesWord w = true) : rowsOverlap r r' = true := by
  have hr : w &&& BitVec.ofNat 27 r.mask = BitVec.ofNat 27 r.pat := beq_iff_eq.1 h
  have hr' : w &&& BitVec.ofNat 27 r'.mask = BitVec.ofNat 27 r'.pat := beq_iff_eq.1 h'
  rw [rowsOverlap, ← hr, ← hr', BitVec.and_assoc, BitVec.and_assoc, BitVec.and_comm (BitVec.ofNat 27 r.mask)]
  exact beq_self_eq_true _

theorem rowsOverlap_comm (r r' : OpcodeRow) : rowsOverlap r r' = rowsOverlap r' r := Bool.beq_comm

/-- One of the rows is the general PPU read of mapper 9 and the other a latch row (rule R93). -/
def IsGeneralAndLatch (r r' : OpcodeRow) : Prop :=
  (r.mnemonic = "M9.PPU_READ" ∧
      r'.mnemonic ∈ ["M9.PPU_READ_FD0", "M9.PPU_READ_FE0", "M9.PPU_READ_FD1", "M9.PPU_READ_FE1"]) ∨
    (r'.mnemonic = "M9.PPU_READ" ∧
      r.mnemonic ∈ ["M9.PPU_READ_FD0", "M9.PPU_READ_FE0", "M9.PPU_READ_FD1", "M9.PPU_READ_FE1"])

/-- Rule R93 of two rows of the tables tried together. -/
def OverlapAllowed (m : MapperId) (r r' : OpcodeRow) : Prop :=
  rowsOverlap r r' = true → m = .m9 ∧ IsGeneralAndLatch r r'

theorem OverlapAllowed.symm {m : MapperId} {r r' : OpcodeRow} (h : OverlapAllowed m r r') :
    OverlapAllowed m r' r := by
  intro hoverlap
  obtain ⟨hm, hrows⟩ := h (rowsOverlap_comm r r' ▸ hoverlap)
  exact ⟨hm, hrows.symm⟩

theorem overlapAllowed_of_disjoint {m : MapperId} {r r' : OpcodeRow} (h : rowsOverlap r r' = false) :
    OverlapAllowed m r r' := fun hoverlap => by cases h.symm.trans hoverlap

theorem apuRows_disjoint : apuRows.Pairwise (fun r r' => rowsOverlap r r' = false) := by
  decide

theorem mapperRows_apuRows_disjoint (m : MapperId) :
    ∀ r ∈ mapperRows m, ∀ r' ∈ apuRows, rowsOverlap r r' = false := by
  cases m <;> decide

theorem mapperRows_overlap (m : MapperId) : (mapperRows m).Pairwise (OverlapAllowed m) := by
  unfold OverlapAllowed IsGeneralAndLatch
  cases m <;> decide

/-- Rule R93, for the rows in the order in which they are tried. -/
theorem rows_overlap (m : MapperId) : (mapperRows m ++ apuRows).Pairwise (OverlapAllowed m) :=
  List.pairwise_append.2 ⟨mapperRows_overlap m, apuRows_disjoint.imp overlapAllowed_of_disjoint,
    fun r hr r' hr' => overlapAllowed_of_disjoint (mapperRows_apuRows_disjoint m r hr r' hr')⟩

/-! ### The statement -/

/-- Settles O4: rows that match one word overlap, and the rows of the tables are compared pair by pair. -/
theorem onlyLatchRowsOverlap : Obligations.OnlyLatchRowsOverlap := by
  intro m w r r' hr hr' hne hmatch hmatch'
  have : Std.Symm (OverlapAllowed m) := ⟨fun _ _ => OverlapAllowed.symm⟩
  exact (rows_overlap m).forall hr hr' hne (rowsOverlap_of_matchesWord hmatch hmatch')

end Sys2Proof.Machine
end

section
/-! PROOFS. The statements of `30_encoding.md`, fourth part: what a row says of the fields of a word, and that the
decoder decides as the first matching row says. -/

namespace Sys2Proof.Machine

open Stated

/-! ### What a row says of the fields of a word -/

section

variable {m : MapperId} {w v : Tw} {r : OpcodeRow}

theorem and_highMask {n : Nat} (x : BitVec n) (lo : Nat) :
    (x &&& (BitVec.allOnes n <<< lo)).toNat = x.toNat / 2 ^ lo * 2 ^ lo := by
  rw [← BitVec.shiftLeft_ushiftRight, BitVec.toNat_shiftLeft, BitVec.toNat_ushiftRight, Nat.shiftRight_eq_div_pow,
    Nat.shiftLeft_eq]
  exact Nat.mod_eq_of_lt ((Nat.div_mul_le_self _ _).trans_lt x.isLt)

/-- Masking the bits from `lo` on and comparing says what the number above them is. -/
theorem and_highMask_iff {n : Nat} {x mask v : BitVec n} (lo : Nat) (hmask : mask = BitVec.allOnes n <<< lo)
    (hv : v.toNat % 2 ^ lo = 0) : x &&& mask = v ↔ x.toNat / 2 ^ lo = v.toNat / 2 ^ lo := by
  rw [hmask, ← BitVec.toNat_inj, and_highMask]
  conv_lhs => rw [← Nat.div_mul_cancel (Nat.dvd_of_mod_eq_zero hv)]
  exact Nat.mul_left_inj (Nat.two_pow_pos lo).ne'

@[simp] theorem Tw.kind_ofNat (n : Nat) : Tw.kind (BitVec.ofNat 27 n) = BitVec.ofNat 3 (n / 2 ^ 24) := by
  apply BitVec.eq_of_toNat_eq
  simp only [Tw.kind, BitVec.extractLsb'_toNat, BitVec.toNat_ofNat, Nat.shiftRight_eq_div_pow]
  omega

@[simp] theorem Tw.addr_ofNat (n : Nat) : Tw.addr (BitVec.ofNat 27 n) = BitVec.ofNat 16 (n / 2 ^ 8) := by
  apply BitVec.eq_of_toNat_eq
  simp only [Tw.addr, BitVec.extractLsb'_toNat, BitVec.toNat_ofNat, Nat.shiftRight_eq_div_pow]
  omega

@[simp] theorem Tw.data_ofNat (n : Nat) : Tw.data (BitVec.ofNat 27 n) = BitVec.ofNat 8 n := by
  apply BitVec.eq_of_toNat_eq
  simp only [Tw.data, BitVec.extractLsb'_toNat, BitVec.toNat_ofNat, Nat.shiftRight_eq_div_pow]
  omega

/-- Two words are one when their three fields are (rule R90). -/
theorem Tw.eq_iff_fields : w = v ↔ w.kind = v.kind ∧ w.addr = v.addr ∧ w.data = v.data := by
  constructor
  · rintro rfl
    exact ⟨rfl, rfl, rfl⟩
  · rintro ⟨hkind, haddr, hdata⟩
    rw [← Tw.pack_fields w, ← Tw.pack_fields v, hkind, haddr, hdata]

/-- A row matches when each field of the word, masked, is that of the pattern (rule R90). -/
theorem matchesWord_iff : r.matchesWord w = true ↔
    w.kind &&& BitVec.ofNat 3 (r.mask / 2 ^ 24) = BitVec.ofNat 3 (r.pat / 2 ^ 24) ∧
      w.addr &&& BitVec.ofNat 16 (r.mask / 2 ^ 8) = BitVec.ofNat 16 (r.pat / 2 ^ 8) ∧
      w.data &&& BitVec.ofNat 8 r.mask = BitVec.ofNat 8 r.pat := by
  rw [OpcodeRow.matchesWord, beq_iff_eq, Tw.eq_iff_fields, ← Tw.kind_ofNat, ← Tw.kind_ofNat, ← Tw.addr_ofNat,
    ← Tw.addr_ofNat, ← Tw.data_ofNat, ← Tw.data_ofNat]
  simp only [Tw.kind, Tw.addr, Tw.data, BitVec.extractLsb'_and]

end

section

variable {addr a : BitVec 16} {data d : Byte}

/-! The masks of rule R98, on the address and on the data byte. -/

@[simp] theorem and_8000_iff (h : a.toNat % 0x8000 = 0) :
    addr &&& 0x8000#16 = a ↔ addr.toNat / 0x8000 = a.toNat / 0x8000 := and_highMask_iff 15 rfl h

@[simp] theorem and_e000_iff (h : a.toNat % 0x2000 = 0) :
    addr &&& 0xE000#16 = a ↔ addr.toNat / 0x2000 = a.toNat / 0x2000 := and_highMask_iff 13 rfl h

@[simp] theorem and_f000_iff (h : a.toNat % 0x1000 = 0) :
    addr &&& 0xF000#16 = a ↔ addr.toNat / 0x1000 = a.toNat / 0x1000 := and_highMask_iff 12 rfl h

@[simp] theorem and_fff0_iff (h : a.toNat % 0x10 = 0) :
    addr &&& 0xFFF0#16 = a ↔ addr.toNat / 0x10 = a.toNat / 0x10 := and_highMask_iff 4 rfl h

@[simp] theorem and_ffff_iff : addr &&& 0xFFFF#16 = a ↔ addr.toNat = a.toNat := by
  rw [← BitVec.toNat_inj]
  exact Eq.congr_left (congrArg _ (BitVec.and_allOnes (x := addr)))

@[simp] theorem and_80_iff (h : d.toNat % 0x80 = 0) :
    data &&& 0x80#8 = d ↔ data.toNat / 0x80 = d.toNat / 0x80 := and_highMask_iff 7 rfl h

@[simp] theorem and_ff_iff : data &&& 0xFF#8 = d ↔ data.toNat = d.toNat := by
  rw [← BitVec.toNat_inj]
  exact Eq.congr_left (congrArg _ (BitVec.and_allOnes (x := data)))

@[simp] theorem and_e001_iff (h : a.toNat % 0x2000 < 2) :
    addr &&& 0xE001#16 = a ↔ addr.toNat / 0x2000 = a.toNat / 0x2000 ∧ addr.toNat % 2 = a.toNat % 2 := by
  have hhigh : (addr &&& 0xE000#16).toNat = (addr.toNat / 0x2000) <<< 13 :=
    (and_highMask addr 13).trans (Nat.shiftLeft_eq _ _).symm
  have hlow : (addr &&& 1#16).toNat = addr.toNat % 2 := Nat.and_one_is_mod _
  have hboth : (addr &&& 0xE001#16).toNat = addr.toNat / 0x2000 * 0x2000 + addr.toNat % 2 := by
    rw [show (0xE001#16 : BitVec 16) = 0xE000#16 ||| 1#16 from rfl, BitVec.and_or_distrib_left, BitVec.toNat_or,
      hhigh, hlow, ← Nat.shiftLeft_add_eq_or_of_lt (by omega), Nat.shiftLeft_eq]
  rw [← BitVec.toNat_inj, hboth]
  omega

theorem isRomAddr_iff_div : isRomAddr addr = true ↔ addr.toNat / 0x8000 = 1 := by
  have hlt : addr.toNat < 0x10000 := addr.isLt
  rw [isRomAddr_iff]
  omega

theorem isSramAddr_iff_div : isSramAddr addr = true ↔ addr.toNat / 0x2000 = 3 := by
  rw [isSramAddr_iff]
  omega

theorem isPatternAddr_iff_div : isPatternAddr addr = true ↔ addr.toNat / 0x2000 = 0 := by
  rw [isPatternAddr_iff]
  omega

end

/-! ### The first row that matches -/

/-- The mnemonic of the first row that matches the word (rule R93). -/
def firstMnemonic (rows : List OpcodeRow) (w : Tw) : Option String :=
  (rows.find? (fun r => r.matchesWord w)).map OpcodeRow.mnemonic

section

variable {m : MapperId} {w : Tw} {r : OpcodeRow} {rows rows' : List OpcodeRow}

@[simp] theorem firstMnemonic_nil (w : Tw) : firstMnemonic [] w = none := rfl

@[simp] theorem firstMnemonic_of_match (h : r.matchesWord w = true) :
    firstMnemonic (r :: rows) w = some r.mnemonic := by
  simp [firstMnemonic, h]

@[simp] theorem firstMnemonic_of_not_match (h : ¬ r.matchesWord w = true) :
    firstMnemonic (r :: rows) w = firstMnemonic rows w := by
  simp [firstMnemonic, h]

theorem firstMnemonic_append :
    firstMnemonic (rows ++ rows') w = (firstMnemonic rows w).or (firstMnemonic rows' w) := by
  rw [firstMnemonic, List.find?_append, Option.map_or]
  rfl

/-- Rows that look at the whole kind, each for another kind than the word's, do not match it. -/
theorem firstMnemonic_of_otherKind
    (h : ∀ r ∈ rows, r.mask / 2 ^ 24 = 7 ∧ BitVec.ofNat 3 (r.pat / 2 ^ 24) ≠ w.kind) :
    firstMnemonic rows w = none := by
  refine Option.map_eq_none_iff.2 (List.find?_eq_none.2 fun r hr hmatch => ?_)
  obtain ⟨hmask, hpat⟩ := h r hr
  obtain ⟨hkind, -, -⟩ := matchesWord_iff.1 hmatch
  rw [hmask] at hkind
  exact hpat (hkind.symm.trans (BitVec.and_allOnes (x := w.kind)))

/-! ### The rows of the mapper tables, by the kind of the word -/

/-- The bus rows of each mapper's table (rule R98). -/
def busRows : MapperId → List OpcodeRow
  | .m0 => m0BusRows
  | .m1 => m1BusRows
  | .m2 => m2BusRows
  | .m3 => m3BusRows
  | .m4 => m4BusRows
  | .m9 => m9BusRows

/-- The event rows of each mapper's table (rule R98). -/
def eventRows : MapperId → List OpcodeRow
  | .m0 => m0EventRows
  | .m1 => m1EventRows
  | .m2 => m2EventRows
  | .m3 => m3EventRows
  | .m4 => m4EventRows
  | .m9 => m9EventRows

theorem mapperRows_eq (m : MapperId) : mapperRows m = busRows m ++ eventRows m := by
  cases m <;> rfl

theorem busRows_kind (m : MapperId) : ∀ r ∈ busRows m, r.mask / 2 ^ 24 = 7 ∧ r.pat / 2 ^ 24 < 4 := by
  cases m <;> decide

theorem eventRows_kind (m : MapperId) : ∀ r ∈ eventRows m, r.mask / 2 ^ 24 = 7 ∧ r.pat / 2 ^ 24 = 4 := by
  cases m <;> decide

theorem apuRows_kind : ∀ r ∈ apuRows, r.mask / 2 ^ 24 = 7 ∧ (r.pat / 2 ^ 24 = 1 ∨ r.pat / 2 ^ 24 = 4) := by
  decide

theorem ofNat_kind_ne {n : Nat} {kind : BitVec 3} (hn : n < 8) (hne : n ≠ kind.toNat) :
    BitVec.ofNat 3 n ≠ kind := by
  rintro rfl
  exact hne (Nat.mod_eq_of_lt hn).symm

theorem eventRows_of_bus (hk : w.kind.toNat ≠ 4) : firstMnemonic (eventRows m) w = none :=
  firstMnemonic_of_otherKind fun r hr => by
    obtain ⟨hmask, hpat⟩ := eventRows_kind m r hr
    exact ⟨hmask, ofNat_kind_ne (by omega) (by omega)⟩

theorem busRows_of_notBus (hk : 4 ≤ w.kind.toNat) : firstMnemonic (busRows m) w = none :=
  firstMnemonic_of_otherKind fun r hr => by
    obtain ⟨hmask, hpat⟩ := busRows_kind m r hr
    exact ⟨hmask, ofNat_kind_ne (by omega) (by omega)⟩

theorem apuRows_of_otherKind (h1 : w.kind.toNat ≠ 1) (h4 : w.kind.toNat ≠ 4) : firstMnemonic apuRows w = none :=
  firstMnemonic_of_otherKind fun r hr => by
    obtain ⟨hmask, hpat⟩ := apuRows_kind r hr
    exact ⟨hmask, ofNat_kind_ne (by omega) (by omega)⟩

end

section

variable {m : MapperId} {w : Tw}

/-- A bit is the remainder by 2 of what stands from it on. -/
theorem bit_eq_decide {n : Nat} (x : BitVec n) (i : Nat) : x.getLsbD i = decide (x.toNat / 2 ^ i % 2 = 1) :=
  Nat.testBit_eq_decide_div_mod_eq

/-- Static RAM's window and $8000 on exclude each other, so that the order of their rows says nothing. -/
theorem busRows_cpuRead (hk : w.kind = kindCpuRead) :
    firstMnemonic (busRows m) w = (decodeCpuRead m w.addr).map Instr.mnemonic := by
  have hexclusive : w.addr.toNat / 0x8000 = 1 → w.addr.toNat / 0x2000 ≠ 3 := by omega
  unfold decodeCpuRead
  simp only [isRomAddr_iff_div, isSramAddr_iff_div]
  split_ifs with hrom hsram <;> cases m <;>
    simp [busRows, m0BusRows, m1BusRows, m2BusRows, m3BusRows, m4BusRows, m9BusRows, matchesWord_iff,
      kindCpuRead, Instr.mnemonic, *]

/-- The serial rows of mapper 1 tell bit 7 of the byte (rules R195, R196). -/
theorem m1Rows_romWrite (hk : w.kind = kindCpuWrite) (hrom : w.addr.toNat / 0x8000 = 1) :
    firstMnemonic m1BusRows w = some (romWriteOf w.addr w.data .m1).mnemonic := by
  have hsram : w.addr.toNat / 0x2000 ≠ 3 := by omega
  have hlt : w.data.toNat < 0x100 := w.data.isLt
  have hseven : w.data.getLsbD 7 = true ↔ w.data.toNat / 0x80 = 1 := by
    rw [bit_eq_decide, decide_eq_true_eq]
    omega
  dsimp only [romWriteOf]
  split
  next hreset =>
    simp [m1BusRows, matchesWord_iff, hk, kindCpuWrite, hrom, hsram, hseven.1 hreset, Instr.mnemonic]
  next hshift =>
    have hzero : w.data.toNat / 0x80 = 0 := by have := hseven.not.1 hshift; omega
    simp [m1BusRows, matchesWord_iff, hk, kindCpuWrite, hrom, hsram, hzero, Instr.mnemonic]

/-- The register rows of mapper 4 tell the window and the lowest bit of the address (rule R231). -/
theorem m4Rows_romWrite (hk : w.kind = kindCpuWrite) (hrom : w.addr.toNat / 0x8000 = 1) :
    firstMnemonic m4BusRows w = some (romWriteOf w.addr w.data .m4).mnemonic := by
  have hwindow : w.addr.toNat / 0x2000 = 4 ∨ w.addr.toNat / 0x2000 = 5 ∨ w.addr.toNat / 0x2000 = 6 ∨
      w.addr.toNat / 0x2000 = 7 := by omega
  obtain hbit | hbit := Nat.mod_two_eq_zero_or_one w.addr.toNat
  all_goals obtain hwindow | hwindow | hwindow | hwindow := hwindow
  all_goals
    simp only [romWriteOf, decodeM4Write, field_eq_div_mod, bit_eq_decide, pow_zero, Nat.div_one, Nat.reducePow,
      hwindow, hbit]
    simp [m4BusRows, matchesWord_iff, hk, kindCpuWrite, hwindow, hbit, Instr.mnemonic]

/-- The register rows of mapper 9 tell the 4 KiB page of the address (rule R261). -/
theorem m9Rows_romWrite (hk : w.kind = kindCpuWrite) (hrom : w.addr.toNat / 0x8000 = 1) :
    firstMnemonic m9BusRows w = some (romWriteOf w.addr w.data .m9).mnemonic := by
  have hpage : w.addr.toNat / 0x1000 = 8 ∨ w.addr.toNat / 0x1000 = 9 ∨ w.addr.toNat / 0x1000 = 10 ∨
      w.addr.toNat / 0x1000 = 11 ∨ w.addr.toNat / 0x1000 = 12 ∨ w.addr.toNat / 0x1000 = 13 ∨
      w.addr.toNat / 0x1000 = 14 ∨ w.addr.toNat / 0x1000 = 15 := by omega
  have hwindow : w.addr.toNat / 0x2000 = w.addr.toNat / 0x1000 / 2 := by omega
  obtain hpage | hpage | hpage | hpage | hpage | hpage | hpage | hpage := hpage
  all_goals
    simp only [romWriteOf, decodeM9Write, field_eq_div_mod, Nat.reducePow, hpage]
    simp [m9BusRows, matchesWord_iff, hk, kindCpuWrite, hwindow, hpage, Instr.mnemonic]

theorem busRows_romWrite (hk : w.kind = kindCpuWrite) (hrom : w.addr.toNat / 0x8000 = 1) :
    firstMnemonic (busRows m) w = some (romWriteOf w.addr w.data m).mnemonic := by
  cases m with
  | m0 | m2 | m3 =>
    simp [busRows, m0BusRows, m2BusRows, m3BusRows, matchesWord_iff, hk, kindCpuWrite, hrom, romWriteOf,
      Instr.mnemonic]
  | m1 => exact m1Rows_romWrite hk hrom
  | m4 => exact m4Rows_romWrite hk hrom
  | m9 => exact m9Rows_romWrite hk hrom

theorem busRows_cpuWrite (hk : w.kind = kindCpuWrite) :
    firstMnemonic (busRows m) w = (decodeCpuWrite m w.addr w.data).map Instr.mnemonic := by
  by_cases hrom : isRomAddr w.addr = true
  · rw [decodeCpuWrite_of_rom hrom]
    exact busRows_romWrite hk (isRomAddr_iff_div.1 hrom)
  · unfold decodeCpuWrite
    rw [if_neg hrom]
    rw [isRomAddr_iff_div] at hrom
    have hwindow : ∀ k, 4 ≤ k → w.addr.toNat / 0x2000 ≠ k := fun k hk => by omega
    have hpage : ∀ k, 8 ≤ k → w.addr.toNat / 0x1000 ≠ k := fun k hk => by omega
    simp only [isSramAddr_iff_div]
    split_ifs with hsram <;> cases m <;>
      simp [busRows, m0BusRows, m1BusRows, m2BusRows, m3BusRows, m4BusRows, m9BusRows, matchesWord_iff,
        kindCpuWrite, Instr.mnemonic, *]

/-- The latch rows of mapper 9 stand before the general row, which is the first match outside their ranges alone
(rule R93). -/
theorem m9Rows_patternRead (hk : w.kind = kindPpuRead) (hpattern : isPatternAddr w.addr = true) :
    firstMnemonic m9BusRows w = some (decodeM9PpuRead (w.addr.extractLsb' 0 13)).mnemonic := by
  have hwindow := isPatternAddr_iff_div.1 hpattern
  simp only [decodeM9PpuRead, latchBlock_eq_iff, patternWithin_toNat hpattern, BitVec.toNat_ofNat, Nat.reducePow,
    Nat.reduceMod]
  split_ifs <;> simp [m9BusRows, matchesWord_iff, kindPpuRead, Instr.mnemonic, *]

theorem busRows_ppuRead (hk : w.kind = kindPpuRead) :
    firstMnemonic (busRows m) w = (decodePpuRead m w.addr).map Instr.mnemonic := by
  by_cases hpattern : isPatternAddr w.addr = true
  · have hwindow := isPatternAddr_iff_div.1 hpattern
    rw [decodePpuRead_of_pattern hpattern]
    cases m with
    | m0 | m1 | m2 | m3 | m4 =>
      simp [busRows, m0BusRows, m1BusRows, m2BusRows, m3BusRows, m4BusRows, matchesWord_iff, hk, kindPpuRead,
        hwindow, ppuReadOf, Instr.mnemonic]
    | m9 => exact m9Rows_patternRead hk hpattern
  · rw [decodePpuRead, if_neg hpattern]
    rw [isPatternAddr_iff_div] at hpattern
    have hlatch : ∀ k, k < 0x200 → w.addr.toNat / 0x10 ≠ k := fun k hk => by omega
    cases m <;>
      simp [busRows, m0BusRows, m1BusRows, m2BusRows, m3BusRows, m4BusRows, m9BusRows, matchesWord_iff,
        kindPpuRead, *]

theorem busRows_ppuWrite (hk : w.kind = kindPpuWrite) :
    firstMnemonic (busRows m) w = (decodePpuWrite m w.addr w.data).map Instr.mnemonic := by
  by_cases hpattern : isPatternAddr w.addr = true
  · rw [decodePpuWrite_of_pattern hpattern]
    rw [isPatternAddr_iff_div] at hpattern
    cases m <;>
      simp [busRows, m0BusRows, m1BusRows, m2BusRows, m3BusRows, m4BusRows, m9BusRows, matchesWord_iff, hk,
        kindPpuWrite, hpattern, ppuWriteOf, Instr.mnemonic]
  · rw [decodePpuWrite, if_neg hpattern]
    rw [isPatternAddr_iff_div] at hpattern
    cases m <;>
      simp [busRows, m0BusRows, m1BusRows, m2BusRows, m3BusRows, m4BusRows, m9BusRows, matchesWord_iff, hk,
        kindPpuWrite, hpattern]

/-- An event row matches its own number alone (rule R91). -/
theorem eventRows_event (hk : w.kind = kindEvent) (haddr : w.addr = 0#16) :
    firstMnemonic (eventRows m) w = (decodeMapperEvent m w.data).map Instr.mnemonic := by
  unfold decodeMapperEvent
  split
  case h_6 =>
    simp only [imp_false] at *
    cases m <;>
      simp [eventRows, m0EventRows, m1EventRows, m2EventRows, m3EventRows, m4EventRows, m9EventRows,
        matchesWord_iff, kindEvent, *]
  all_goals
    cases m <;>
      simp [eventRows, m0EventRows, m1EventRows, m2EventRows, m3EventRows, m4EventRows, m9EventRows,
        matchesWord_iff, kindEvent, Instr.mnemonic, *]

/-- A register row of the APU table matches its own address alone (rule R95). -/
theorem apuRows_cpuWrite (hk : w.kind = kindCpuWrite) :
    firstMnemonic apuRows w = (decodeApuWrite w.addr w.data).map Instr.mnemonic := by
  unfold decodeApuWrite
  split
  case h_23 =>
    simp only [imp_false] at *
    simp [apuRows, matchesWord_iff, kindCpuWrite, *]
  all_goals simp [apuRows, matchesWord_iff, kindCpuWrite, Instr.mnemonic, *]

theorem apuRows_event (hk : w.kind = kindEvent) (haddr : w.addr = 0#16) :
    firstMnemonic apuRows w = (decodeApuEvent w.data).map Instr.mnemonic := by
  unfold decodeApuEvent
  split
  case h_7 =>
    simp only [imp_false] at *
    simp [apuRows, matchesWord_iff, kindEvent, *]
  all_goals simp [apuRows, matchesWord_iff, kindEvent, Instr.mnemonic, *]

/-- An event at another address has no row (rules R91, R97 (a)). -/
theorem eventRows_of_addr (hk : w.kind = kindEvent) (haddr : w.addr ≠ 0#16) :
    firstMnemonic (eventRows m) w = none ∧ firstMnemonic apuRows w = none := by
  have haddr : w.addr.toNat ≠ 0 := fun h => haddr (BitVec.eq_of_toNat_eq h)
  constructor
  · cases m <;>
      simp [eventRows, m0EventRows, m1EventRows, m2EventRows, m3EventRows, m4EventRows, m9EventRows,
        matchesWord_iff, kindEvent, *]
  · simp [apuRows, matchesWord_iff, kindEvent, *]

/-- The mapper's table decodes as its rows say. -/
theorem decodeMapper_mnemonic :
    (decodeMapper m w).map Instr.mnemonic = firstMnemonic (mapperRows m) w := by
  rw [mapperRows_eq, firstMnemonic_append]
  unfold decodeMapper
  split
  next hk =>
    rw [eventRows_of_bus (by omega), Option.or_none, busRows_cpuRead (BitVec.eq_of_toNat_eq hk)]
  next hk =>
    rw [eventRows_of_bus (by omega), Option.or_none, busRows_cpuWrite (BitVec.eq_of_toNat_eq hk)]
  next hk =>
    rw [eventRows_of_bus (by omega), Option.or_none, busRows_ppuRead (BitVec.eq_of_toNat_eq hk)]
  next hk =>
    rw [eventRows_of_bus (by omega), Option.or_none, busRows_ppuWrite (BitVec.eq_of_toNat_eq hk)]
  next hk =>
    have hevent : w.kind = kindEvent := BitVec.eq_of_toNat_eq hk
    rw [busRows_of_notBus (by omega), Option.none_or]
    split
    next haddr => exact (eventRows_event hevent haddr).symm
    next haddr => exact (eventRows_of_addr hevent haddr).1.symm
  next h0 h1 h2 h3 h4 =>
    simp only [imp_false] at h0 h1 h2 h3 h4
    rw [busRows_of_notBus (by omega), eventRows_of_bus h4]
    rfl

/-- The APU table decodes as its rows say. -/
theorem decodeApu_mnemonic : (decodeApu w).map Instr.mnemonic = firstMnemonic apuRows w := by
  unfold decodeApu
  split
  next hk => exact (apuRows_cpuWrite (BitVec.eq_of_toNat_eq hk)).symm
  next hk =>
    have hevent : w.kind = kindEvent := BitVec.eq_of_toNat_eq hk
    split
    next haddr => exact (apuRows_event hevent haddr).symm
    next haddr => exact (eventRows_of_addr (m := .m0) hevent haddr).2.symm
  next h1 h4 =>
    simp only [imp_false] at h1 h4
    exact (apuRows_of_otherKind h1 h4).symm

/-- The mapper's table is tried first, then the APU table (rule R92). -/
theorem decode_toOption : (decode m w).toOption = (decodeMapper m w).or (decodeApu w) := by
  unfold decode
  cases decodeMapper m w with
  | some i => rfl
  | none => cases decodeApu w <;> rfl

end

/-! ### The statement -/

/-- Settles O2: each of the two tables decodes as its own rows say, and the mapper's is tried first. -/
theorem decoderFollowsTheOpcodeMap : Obligations.DecoderFollowsTheOpcodeMap := by
  intro m w
  calc (decode m w).toOption.map Instr.mnemonic
      = ((decodeMapper m w).map Instr.mnemonic).or ((decodeApu w).map Instr.mnemonic) := by
        rw [decode_toOption, Option.map_or]
    _ = (firstMnemonic (mapperRows m) w).or (firstMnemonic apuRows w) := by
        rw [decodeMapper_mnemonic, decodeApu_mnemonic]
    _ = firstMnemonic (mapperRows m ++ apuRows) w := firstMnemonic_append.symm

end Sys2Proof.Machine
end

section
/-! PROOFS. The statements of `30_encoding.md`, last part: written-out words, words that are no operation, the
register writes consumed outside the block, and five writes of mapper 1's serial port. -/

namespace Sys2Proof.Machine

open Stated

section

variable {m : MapperId} {data : Byte} {w : Tw} {s : State}

/-! ### The words that are never generated -/

theorem decodeApuEvent_eq_none (h : 11 ≤ data.toNat) : decodeApuEvent data = none := by
  unfold decodeApuEvent
  split
  case h_7 => rfl
  all_goals omega

/-- The words that the environment never generates: kinds 5 to 7, and events with no row (rule R97 (a)). -/
def NeverGenerated (w : Tw) : Prop :=
  5 ≤ w.kind.toNat ∨ (w.kind.toNat = 4 ∧ (w.addr ≠ 0#16 ∨ 11 ≤ w.data.toNat))

theorem NeverGenerated.decodeMapper_eq_none (h : NeverGenerated w) : decodeMapper m w = none := by
  obtain hkind | ⟨hkind, hevent⟩ := h
  · unfold decodeMapper
    split
    case h_6 => rfl
    all_goals omega
  · rw [decodeMapper_event (BitVec.eq_of_toNat_eq hkind)]
    split
    next haddr =>
      have hnumber := hevent.resolve_left (not_not.2 haddr)
      exact decodeMapperEvent_eq_none (by omega)
    · rfl

theorem NeverGenerated.decodeApu_eq_none (h : NeverGenerated w) : decodeApu w = none := by
  obtain hkind | ⟨hkind, hevent⟩ := h
  · unfold decodeApu
    split
    case h_3 => rfl
    all_goals omega
  · rw [decodeApu_event (BitVec.eq_of_toNat_eq hkind)]
    split
    next haddr => exact decodeApuEvent_eq_none (hevent.resolve_left (not_not.2 haddr))
    · rfl

/-- Such a word is rejected on every mapper (rule R97 (a)). -/
theorem NeverGenerated.decode_eq (h : NeverGenerated w) : decode m w = .error .neverGenerated := by
  have hkind : ¬ w.kind.toNat < 4 := by
    obtain hkind | ⟨hkind, -⟩ := h <;> omega
  simp [decode, h.decodeMapper_eq_none, h.decodeApu_eq_none, rejectReason, hkind]

theorem NeverGenerated.perform (h : NeverGenerated w) (s : State) : s.perform w = .next s.done := by
  unfold State.perform
  rw [h.decode_eq]
  rfl

/-! ### The loader of mapper 1 -/

/-- The five loader bits after one bit is shifted in at the top (rule R195). -/
def shiftIn (sr : BitVec 5) (bit : BitVec 1) : BitVec 5 := (sr >>> 1) ||| (bit.setWidth 5 <<< 4)

theorem shiftIn_toNat (sr : BitVec 5) (bit : BitVec 1) :
    (shiftIn sr bit).toNat = sr.toNat / 2 + 16 * bit.toNat := by
  have hlow : (sr >>> 1).toNat = sr.toNat / 2 := by simp [Nat.shiftRight_one]
  have hhigh : (bit.setWidth 5 <<< 4).toNat = bit.toNat <<< 4 := by
    have := bit.isLt
    simp only [BitVec.toNat_shiftLeft, BitVec.toNat_setWidth]
    omega
  have hlt : sr.toNat / 2 < 2 ^ 4 := by have := sr.isLt; omega
  rw [shiftIn, BitVec.toNat_or, hlow, hhigh, Nat.or_comm, ← Nat.shiftLeft_add_eq_or_of_lt hlt,
    Nat.shiftLeft_eq]
  omega

/-- Five bits push out whatever the loader held, the first of them lowest (rule R96 (a)). -/
theorem shiftIn_five (sr : BitVec 5) (b0 b1 b2 b3 b4 : BitVec 1) :
    shiftIn (shiftIn (shiftIn (shiftIn (shiftIn sr b0) b1) b2) b3) b4 =
      BitVec.ofNat 5 (b0.toNat + 2 * b1.toNat + 4 * b2.toNat + 8 * b3.toNat + 16 * b4.toNat) := by
  apply BitVec.eq_of_toNat_eq
  simp only [shiftIn_toNat, BitVec.toNat_ofNat]
  have := sr.isLt
  have := b0.isLt
  have := b1.isLt
  have := b2.isLt
  have := b3.isLt
  have := b4.isLt
  omega

theorem M1State.shift_of_not_fifth {r : M1State} (h : r.cnt ≠ 4) (bit : BitVec 1) (target : BitVec 2) :
    r.shift bit target = { r with sr := shiftIn r.sr bit, cnt := r.cnt + 1 } := if_neg h

theorem M1State.shift_of_fifth {r : M1State} (h : r.cnt = 4) (bit : BitVec 1) (target : BitVec 2) :
    r.shift bit target = r.commit target (shiftIn r.sr bit) := if_pos h

/-- The fifth bit's value goes to the register that its target selects alone (rule R195). -/
theorem M1State.commit_eq (r : M1State) (target : BitVec 2) (value : BitVec 5) :
    r.commit target value = { r with
      sr := 0, cnt := 0
      ctrl := if target.toNat = 0 then value else r.ctrl
      chr0 := if target.toNat = 1 then value else r.chr0
      chr1 := if target.toNat = 2 then value else r.chr1
      prg := if target.toNat = 3 then value else r.prg } := by
  unfold M1State.commit
  split
  next htarget => simp [htarget]
  next htarget => simp [htarget]
  next htarget => simp [htarget]
  next h0 h1 h2 =>
    simp only [imp_false] at h0 h1 h2
    have htarget : target.toNat = 3 := by have := target.isLt; omega
    simp [htarget]

/-! ### Accepted writes of the serial port, one after the other -/

/-- `s` after a write of the serial port at the CPU step `step` that left the registers as `r`. -/
def afterSerial (s : State) (step : Nat) (r : M1State) : State :=
  registersAre { s with side := { s.side with cpuStep := step } } (.m1 r)

/-- The registers with the loader that a write at the CPU step `step` left. -/
def M1State.withLoader (r : M1State) (sr : BitVec 5) (cnt step : Nat) : M1State :=
  { r with sr := sr, cnt := cnt, lastStep := step }

/-- An accepted write of the serial port shifts its bit in (rules R195, R197). -/
theorem exec_serialShift_accepted {r : M1State} {step : Nat} (hmap : s.map = .m1 r)
    (haccept : gateAccepts s.cfg.mmc1Accept r.lastStep step = true) (bit : BitVec 1) (target : BitVec 2) :
    exec (.m1SerialShift bit target) { s with side := { s.side with cpuStep := step } } =
      .next (afterSerial s step { r.shift bit target with lastStep := step }) := by
  have hgated : r.gated s.cfg.mmc1Accept step (fun q => q.shift bit target) =
      { r.shift bit target with lastStep := step } := if_pos haccept
  exact hgated ▸ onM1_of_map hmap _

/-- A write before the fifth puts its bit into the loader (rule R195). -/
theorem serialWrites_bit {r : M1State} {step : Nat} (hmap : s.map = .m1 r) (hcnt : r.cnt ≠ 4)
    (haccept : gateAccepts s.cfg.mmc1Accept r.lastStep step = true) (bit : BitVec 1) (target : BitVec 2)
    (rest : List (Nat × BitVec 1 × BitVec 2)) :
    serialWrites ((step, bit, target) :: rest) s =
      serialWrites rest (afterSerial s step (r.withLoader (shiftIn r.sr bit) (r.cnt + 1) step)) := by
  rw [serialWrites, exec_serialShift_accepted hmap haccept, M1State.shift_of_not_fifth hcnt]
  rfl

section

variable {r : M1State} {n n' cnt : Nat}

/-- The next write before the fifth, in the state that an accepted write left. -/
theorem serialWrites_nextBit (hcnt : cnt ≠ 4) (haccept : gateAccepts s.cfg.mmc1Accept n n' = true)
    (sr : BitVec 5) (bit : BitVec 1) (target : BitVec 2) (rest : List (Nat × BitVec 1 × BitVec 2)) :
    serialWrites ((n', bit, target) :: rest) (afterSerial s n (r.withLoader sr cnt n)) =
      serialWrites rest (afterSerial s n' (r.withLoader (shiftIn sr bit) (cnt + 1) n')) :=
  serialWrites_bit (s := afterSerial s n (r.withLoader sr cnt n)) rfl hcnt haccept bit target rest

/-- The fifth accepted write commits (rule R195). -/
theorem serialWrites_fifthBit (haccept : gateAccepts s.cfg.mmc1Accept n n' = true)
    (sr : BitVec 5) (bit : BitVec 1) (target : BitVec 2) :
    serialWrites [(n', bit, target)] (afterSerial s n (r.withLoader sr 4 n)) =
      .next (afterSerial s n' ((r.commit target (shiftIn sr bit)).withLoader 0 0 n')) := by
  have hexec := exec_serialShift_accepted (s := afterSerial s n (r.withLoader sr 4 n)) rfl haccept bit target
  rw [serialWrites, hexec, M1State.shift_of_fifth rfl, M1State.commit_eq, M1State.commit_eq]
  rfl

end

end

/-! ### Register writes that the APU does not keep -/

theorem apuRegister_unchanged (s : State) :
    apuRegister s (fun a => a) = .next (answered s (.write .notClaimed)) := rfl

/-! ### The statements -/

/-- Settles O5: the sixteen words are closed terms, and the decoder computes. -/
theorem writtenOutWordsDecode : Obligations.WrittenOutWordsDecode := by
  unfold Obligations.WrittenOutWordsDecode
  decide

/-- Settles O8: neither table has a row for such a word, so that nothing but the answer is left of it. -/
theorem noOperationChangesNothing : Obligations.NoOperationChangesNothing := by
  intro s
  refine ⟨step_of_idle, fun tr rest hpending hword => ?_⟩
  exact (step_eq_perform hpending).trans (NeverGenerated.perform hword _)

/-- Settles O49: seven of the writes put the APU back as it was, and a sweep write touches the inbox alone. -/
theorem writesConsumedOutsideTheBlock : Obligations.WritesConsumedOutsideTheBlock := by
  intro s v
  refine ⟨fun i hi => ?_, rfl, rfl⟩
  have hexec : exec i s = apuRegister s (fun a => a) := by
    simp only [List.mem_cons, List.not_mem_nil, or_false] at hi
    obtain rfl | rfl | rfl | rfl | rfl | rfl | rfl := hi <;> rfl
  exact hexec.trans (apuRegister_unchanged s)

/-- Settles O35: four accepted writes fill the loader, and the fifth commits what five bits make of it. -/
theorem fiveSerialBitsCommitTheirNumber : Obligations.FiveSerialBitsCommitTheirNumber := by
  intro s r b0 b1 b2 b3 b4 t0 t1 t2 t3 t4 n0 n1 n2 n3 n4 hmap hcnt h0 h1 h2 h3 h4
  rw [serialWrites_bit hmap (by omega) h0, hcnt, serialWrites_nextBit (by decide) h1,
    serialWrites_nextBit (by decide) h2, serialWrites_nextBit (by decide) h3, serialWrites_fifthBit h4,
    shiftIn_five, M1State.commit_eq]
  rfl

end Sys2Proof.Machine
end

section
/-! PROOFS. The statements of `40_apu_frame_sequencer.md`: what a quarter-frame and a half-frame event clock, what an
APU tick fires, and the schedule of the system ticks. -/

namespace Sys2Proof.Machine

open Stated

/-! ### The clocked units -/

/-- Counting down from above 0 does not wrap. -/
theorem toNat_sub_one {n : Nat} {x : BitVec n} (h : x ≠ 0) : (x - 1).toNat = x.toNat - 1 := by
  have hpos : x.toNat ≠ 0 := fun hx => h (BitVec.eq_of_toNat_eq (by simpa using hx))
  have hlt := x.isLt
  have hone : (1 : BitVec n).toNat = 1 := by
    change 1 % 2 ^ n = 1
    exact Nat.mod_eq_of_lt (by omega)
  have hle : 1 ≤ x := by rw [BitVec.le_def, hone]; omega
  rw [BitVec.toNat_sub_of_le hle, hone]

section

variable {e : Envelope}

theorem Envelope.clock_of_start (h : e.start = true) (loop : Bool) :
    e.clock loop = { e with start := false, decay := 15, divider := e.volume } := if_pos h

theorem Envelope.clock_of_divider_zero (h : e.start = false) (hdiv : e.divider = 0) (loop : Bool) :
    e.clock loop = { e with
      divider := e.volume
      decay := if e.decay = 0 then (if loop then 15 else 0) else e.decay - 1 } :=
  (if_neg (Bool.eq_false_iff.1 h)).trans (if_pos hdiv)

theorem Envelope.clock_of_divider_ne_zero (h : e.start = false) (hdiv : e.divider ≠ 0) (loop : Bool) :
    e.clock loop = { e with divider := e.divider - 1 } :=
  (if_neg (Bool.eq_false_iff.1 h)).trans (if_neg hdiv)

end

/-- The model's envelope clock is that of rule R121. -/
theorem Envelope.clock_envClocked (e : Envelope) (loop : Bool) : EnvClocked e (e.clock loop) loop := by
  unfold EnvClocked
  cases hstart : e.start with
  | true => simp [Envelope.clock_of_start hstart]
  | false =>
    by_cases hdiv : e.divider = 0
    · rw [Envelope.clock_of_divider_zero hstart hdiv]
      refine ⟨rfl, rfl, hstart, nofun, fun _ hne => absurd (congrArg BitVec.toNat hdiv) hne, fun _ _ => ⟨rfl, ?_⟩⟩
      by_cases hdecay : e.decay = 0
      · cases loop <;> simp [hdecay]
      · have hne : e.decay.toNat ≠ 0 := BitVec.toNat_ne.1 hdecay
        rw [if_neg hdecay]
        exact ⟨fun _ => toNat_sub_one hdecay, fun hzero => absurd hzero hne, fun hzero => absurd hzero hne⟩
    · rw [Envelope.clock_of_divider_ne_zero hstart hdiv]
      exact ⟨rfl, rfl, hstart, nofun, fun _ _ => ⟨rfl, toNat_sub_one hdiv⟩,
        fun _ hzero => absurd hzero (BitVec.toNat_ne.1 hdiv)⟩

theorem lenClock_of_disabled (counter : Byte) (halt : Bool) : lenClock counter false halt = 0 := rfl

theorem lenClock_of_halted (counter : Byte) : lenClock counter true true = counter := by
  simp [lenClock]

/-- An enabled counter that is not halted counts down to 0 and stays there (rule R123). -/
theorem lenClock_of_running_toNat (counter : Byte) :
    (lenClock counter true false).toNat = counter.toNat - 1 := by
  by_cases hzero : counter = 0
  · simp [lenClock, hzero]
  · have hdown : lenClock counter true false = counter - 1 :=
      (if_neg (by decide)).trans (if_pos ⟨hzero, rfl⟩)
    rw [hdown, toNat_sub_one hzero]

/-- The model's length counter clock is that of rule R123. -/
theorem lenClock_lenClocked (counter : Byte) (enable halt : Bool) :
    LenClocked counter (lenClock counter enable halt) enable halt := by
  refine ⟨?_, ?_, ?_⟩
  · rintro rfl
    rw [lenClock_of_disabled]
    rfl
  · rintro rfl rfl
    exact lenClock_of_halted counter
  · rintro rfl rfl
    exact lenClock_of_running_toNat counter

/-- The linear counter reloads while its flag is up, and counts down to 0 otherwise (rule R133). -/
theorem ApuState.linearClock_linCounter (a : ApuState) :
    (a.linReloadFlag = true → a.linearClock.linCounter = a.linReload) ∧
      (a.linReloadFlag = false → a.linearClock.linCounter.toNat = a.linCounter.toNat - 1) := by
  refine ⟨fun h => if_pos h, fun h => ?_⟩
  have hcounter : a.linearClock.linCounter = if a.linCounter ≠ 0 then a.linCounter - 1 else 0 :=
    if_neg (Bool.eq_false_iff.1 h)
  by_cases hzero : a.linCounter = 0
  · simp [hcounter, hzero]
  · rw [hcounter, if_pos hzero, toNat_sub_one hzero]

/-- The reload flag falls unless the triangle is halted (rule R133). -/
theorem ApuState.linearClock_linReloadFlag (a : ApuState) :
    a.linearClock.linReloadFlag = if a.haltT = false then false else a.linReloadFlag := by
  cases h : a.haltT <;> simp [ApuState.linearClock, h]

/-! ### The counts that fire an event -/

theorem firesQuarter_iff {count : Nat} :
    firesQuarter count = true ↔ count ∈ [3729, 7457, 11186, 14916] := by
  simp [firesQuarter, firstQuarterCount, firstHalfCount, secondQuarterCount, lastCount, or_assoc]

theorem firesHalf_iff {count : Nat} : firesHalf count = true ↔ count ∈ [7457, 14916] := by
  simp [firesHalf, firstHalfCount, lastCount]

theorem events_of_quarter_counts :
    ∀ count ∈ [3729, 11186], firesQuarter count = true ∧ firesHalf count = false := by decide

theorem events_of_half_counts :
    ∀ count ∈ [7457, 14916], firesQuarter count = true ∧ firesHalf count = true := by decide

theorem no_event_of_other_counts {count : Nat} (h : count ∉ [3729, 7457, 11186, 14916]) :
    firesQuarter count = false ∧ firesHalf count = false := by
  refine ⟨Bool.eq_false_iff.2 (mt firesQuarter_iff.1 h), Bool.eq_false_iff.2 fun hhalf => h ?_⟩
  exact firesQuarter_iff.1 (events_of_half_counts count (firesHalf_iff.1 hhalf)).1

/-- The wrapped count shows which events fire, 0 standing for 14916. -/
theorem firesQuarter_succ (fc : Nat) :
    firesQuarter (fc + 1) = decide (wrapCount (fc + 1) ∈ [3729, 7457, 11186, 0]) := by
  rw [Bool.eq_iff_iff, firesQuarter_iff, decide_eq_true_iff, wrapCount, lastCount]
  simp only [List.mem_cons, List.not_mem_nil, or_false]
  split <;> omega

theorem firesHalf_succ (fc : Nat) :
    firesHalf (fc + 1) = decide (wrapCount (fc + 1) ∈ [7457, 0]) := by
  rw [Bool.eq_iff_iff, firesHalf_iff, decide_eq_true_iff, wrapCount, lastCount]
  simp only [List.mem_cons, List.not_mem_nil, or_false]
  split <;> omega

/-- Counting on modulo 14916 is what `wrapCount` does (rule R112). -/
theorem wrapCount_mod_succ (k : Nat) : wrapCount (k % 14916 + 1) = (k + 1) % 14916 := by
  unfold wrapCount lastCount
  split <;> omega

/-! ### The operations of the frame sequencer -/

theorem exec_apuQuarter (s : State) :
    exec .apuQuarter s = .next (s.setApu s.apu.quarterFrame).done := rfl

theorem exec_apuHalf (s : State) :
    exec .apuHalf s = .next (((s.setApu (s.apu.halfFrame s.inbox s.side)).setInbox SweepInbox.empty).setOut
      { Outputs.quiet .none with reloads := some (s.apu.sweepReloads s.inbox s.side) }) := rfl

theorem exec_apuTick (s : State) : exec .apuTick s = .next (s.ticked false) := rfl

section

variable {s : State}

theorem exec_sysTick_of_dvd (h : s.apu.tick % 6 = 0) :
    exec .sysTick s = .next (s.ticked true).countTick := if_pos h

theorem exec_sysTick_of_not_dvd (h : s.apu.tick % 6 ≠ 0) :
    exec .sysTick s = .next s.countTick.done := if_neg h

/-- The count alone of an APU tick, with no event (rule R112). -/
def State.countApuTick (s : State) : State := s.setApu { s.apu with fc := wrapCount (s.apu.fc + 1) }

theorem State.ticked_of_no_event (hquarter : firesQuarter (s.apu.fc + 1) = false)
    (hhalf : firesHalf (s.apu.fc + 1) = false) : s.ticked false = s.countApuTick.done := by
  simp only [State.ticked, tickOutputs, ApuState.apuTick, hquarter, hhalf, inboxAfter_of_no_half]
  rfl

/-- With a quarter-frame event alone, an APU tick is the count and then that event (rule R112). -/
theorem State.ticked_of_quarter (hquarter : firesQuarter (s.apu.fc + 1) = true)
    (hhalf : firesHalf (s.apu.fc + 1) = false) :
    s.ticked false = (s.countApuTick.setApu s.countApuTick.apu.quarterFrame).setOut
      { Outputs.quiet .none with quarter := true } := by
  simp only [State.ticked, tickOutputs, ApuState.apuTick, hquarter, hhalf, inboxAfter_of_no_half]
  rfl

/-- With both events, an APU tick is the count, the quarter-frame event and the half-frame event (rule R112). -/
theorem State.ticked_of_half (hquarter : firesQuarter (s.apu.fc + 1) = true)
    (hhalf : firesHalf (s.apu.fc + 1) = true) :
    s.ticked false =
      ((s.setApu (s.countApuTick.apu.quarterFrame.halfFrame s.inbox s.side)).setInbox SweepInbox.empty).setOut
        { Outputs.quiet .none with
          quarter := true, half := true, reloads := some (s.apu.sweepReloads s.inbox s.side) } := by
  simp only [State.ticked, tickOutputs, ApuState.apuTick, hquarter, hhalf, inboxAfter_of_half]
  rfl

end

/-! ### Many executions of one instruction -/

/-- One more execution comes after those that have completed. -/
theorem execTimes_succ_of_next {n : Nat} {i : Instr} {s t : State} (h : execTimes n i s = .next t) :
    execTimes (n + 1) i s = exec i t := by
  induction n generalizing s with
  | zero =>
    obtain rfl : s = t := Host.Outcome.next.inj h
    rw [execTimes]
    cases exec i s <;> rfl
  | succ n ih =>
    unfold execTimes at h ⊢
    split at h
    · next hfirst => simpa only [hfirst] using ih h
    · next hstop => exact absurd h (hstop t)

/-- What one system tick does to the two counters, and what it emits, where the counters stand as after `n` system
ticks (rules R111, R112). -/
theorem exec_sysTick_counts {n : Nat} {t : State} (htick : t.apu.tick = n)
    (hfc : t.apu.fc = (n + 5) / 6 % 14916) :
    ∃ u, exec .sysTick t = .next u ∧ u.apu.tick = n + 1 ∧ u.apu.fc = (n + 6) / 6 % 14916 ∧
      u.out.apuTick = decide (n % 6 = 0) ∧
      u.out.quarter = decide (n % 6 = 0 ∧ (n / 6 + 1) % 14916 ∈ [3729, 7457, 11186, 0]) ∧
      u.out.half = decide (n % 6 = 0 ∧ (n / 6 + 1) % 14916 ∈ [7457, 0]) := by
  by_cases hdvd : n % 6 = 0
  · have hk : wrapCount (t.apu.fc + 1) = (n / 6 + 1) % 14916 := by
      rw [hfc, wrapCount_mod_succ]
      omega
    refine ⟨_, exec_sysTick_of_dvd (htick ▸ hdvd), ?_⟩
    simp [hdvd, htick, ApuState.apuTick_fc, tickOutputs, firesQuarter_succ, firesHalf_succ, hk]
  · have hcount : (n + 5) / 6 = n / 6 + 1 := by omega
    refine ⟨_, exec_sysTick_of_not_dvd (htick ▸ hdvd), ?_⟩
    simp [hdvd, htick, hfc, hcount, Outputs.quiet]

/-- From 0 on, `n` system ticks count `tick` to `n`, and `fc` to the number of APU ticks modulo 14916. -/
theorem execTimes_sysTick_counts {s : State} (htick : s.apu.tick = 0) (hfc : s.apu.fc = 0) (n : Nat) :
    ∃ t, execTimes n .sysTick s = .next t ∧ t.apu.tick = n ∧ t.apu.fc = (n + 5) / 6 % 14916 := by
  induction n with
  | zero => exact ⟨s, rfl, htick, hfc⟩
  | succ n ih =>
    obtain ⟨t, hrun, htick', hfc'⟩ := ih
    obtain ⟨u, hexec, htick'', hfc'', -⟩ := exec_sysTick_counts htick' hfc'
    exact ⟨u, (execTimes_succ_of_next hrun).trans hexec, htick'', hfc''⟩

/-! ### The statements -/

/-- Settles O51: the emitted APU tick is an APU tick whose output says that it was emitted. -/
theorem systemTickEmitsEverySixth : Obligations.SystemTickEmitsEverySixth := by
  intro s
  refine ⟨exec_sysTick_of_not_dvd, fun h => ⟨_, exec_apuTick s, (exec_sysTick_of_dvd h).trans ?_⟩⟩
  rw [State.countTick, State.ticked_apu, ApuState.apuTick_tick]
  rfl

/-- Settles O52: which events fire is said by the count, and each event is the operation of its name. -/
theorem apuTickFiresAtTheFourCounts : Obligations.ApuTickFiresAtTheFourCounts := by
  intro s count counted
  refine ⟨fun h => ?_, fun h => ?_, fun h => ?_⟩
  · obtain ⟨hquarter, hhalf⟩ := no_event_of_other_counts h
    rw [exec_apuTick, State.ticked_of_no_event hquarter hhalf]
    rfl
  · obtain ⟨hquarter, hhalf⟩ := events_of_quarter_counts count h
    refine ⟨_, exec_apuQuarter counted, ?_⟩
    rw [exec_apuTick, State.ticked_of_quarter hquarter hhalf]
    rfl
  · obtain ⟨hquarter, hhalf⟩ := events_of_half_counts count h
    refine ⟨_, _, exec_apuQuarter counted, exec_apuHalf _, ?_⟩
    rw [exec_apuTick, State.ticked_of_half hquarter hhalf]
    rfl

/-- Settles O53: the envelopes and the linear counter are clocked side by side. -/
theorem quarterFrameClocks : Obligations.QuarterFrameClocks := by
  intro s
  have hlinear := ApuState.linearClock_linCounter s.apu
  refine ⟨_, _, _, s.apu.linearClock.linCounter, ?_, s.apu.envP1.clock_envClocked _, s.apu.envP2.clock_envClocked _,
    s.apu.envN.clock_envClocked _, hlinear⟩
  rw [exec_apuQuarter, ← ApuState.linearClock_linReloadFlag]
  rfl

/-- Settles O54: the length counters are clocked as rule R123 says, and a sweep unit's `mute` is computed from the
reload value that leaves the block. -/
theorem halfFrameClocks : Obligations.HalfFrameClocks := by
  intro s
  exact ⟨_, _, _, _, _, _, _, _, exec_apuHalf s, sweepMute_iff _, sweepMute_iff _, lenClock_lenClocked _ _ _,
    lenClock_lenClocked _ _ _, lenClock_lenClocked _ _ _, lenClock_lenClocked _ _ _⟩

/-- Settles O55: the counters before the last of the ticks decide what it emits. -/
theorem frameSequencerSchedule : Obligations.FrameSequencerSchedule := by
  intro s n htick hfc hn
  obtain ⟨m, rfl⟩ := Nat.exists_eq_add_of_le' hn
  obtain ⟨t, hrun, htick', hfc'⟩ := execTimes_sysTick_counts htick hfc m
  obtain ⟨u, hexec, hlast⟩ := exec_sysTick_counts htick' hfc'
  exact ⟨u, (execTimes_succ_of_next hrun).trans hexec, hlast⟩

end Sys2Proof.Machine
end

section
/-! PROOFS. The statements of `41_apu_envelope_length.md`: the envelopes and the length counters over any number of
clocks, the outputs that are functions of the state, and the writes of the envelope, length, linear-counter, enable and
DMC registers. -/

namespace Sys2Proof.Machine

open Stated

/-! ### A unit that every execution of one instruction clocks -/

section

variable {i : Instr} {s t : State} {α β : Type}

theorem execTimes_completes (hexec : ∀ v, ∃ u, exec i v = .next u) (n : Nat) (s : State) :
    ∃ t, execTimes n i s = .next t := by
  induction n with
  | zero => exact ⟨s, rfl⟩
  | succ n ih =>
    obtain ⟨t, hrun⟩ := ih
    rw [execTimes_succ_of_next hrun]
    exact hexec t

/-- Where each execution clocks a unit under a control that it keeps, `n` executions clock the unit `n` times under
the control of the first state. -/
theorem execTimes_clocks (unit : State → α) (control : State → β) (clock : β → α → α)
    (hclock : ∀ v u, exec i v = .next u → unit u = clock (control v) (unit v) ∧ control u = control v)
    {n : Nat} (hrun : execTimes n i s = .next t) : unit t = (clock (control s))^[n] (unit s) := by
  induction n generalizing s with
  | zero =>
    obtain rfl : s = t := Host.Outcome.next.inj hrun
    rfl
  | succ n ih =>
    unfold execTimes at hrun
    split at hrun
    · next u hfirst =>
      obtain ⟨hunit, hcontrol⟩ := hclock s u hfirst
      rw [ih hrun, hunit, hcontrol, Function.iterate_succ_apply]
    · next hstop => exact absurd hrun (hstop t)

end

/-! ### The decay of an envelope -/

/-- Within a level the remainder counts on, and the quotient stays. -/
theorem succ_div_mod_of_lt {j m : Nat} (h : j % m + 1 < m) :
    (j + 1) / m = j / m ∧ (j + 1) % m = j % m + 1 := by
  have hj := Nat.mod_add_div j m
  exact (Nat.div_mod_unique (by omega)).2 ⟨by omega, h⟩

/-- At the end of a level the quotient counts on, and the remainder starts again. -/
theorem succ_div_mod_of_eq {j m : Nat} (h : j % m + 1 = m) :
    (j + 1) / m = j / m + 1 ∧ (j + 1) % m = 0 := by
  have hj := Nat.mod_add_div j m
  exact (Nat.div_mod_unique (by omega)).2 ⟨by rw [Nat.mul_add_one]; omega, by omega⟩

/-- Where an envelope of volume `v` stands `j` quarter-frame clocks after decay 15 and a full divider: rule R121's
worked period. -/
structure Envelope.DecayedFor (v : BitVec 4) (loop : Bool) (j : Nat) (e : Envelope) : Prop where
  start : e.start = false
  volume : e.volume = v
  divider : e.divider.toNat = v.toNat - j % (v.toNat + 1)
  decay : e.decay.toNat = if loop then 15 - j / (v.toNat + 1) % 16 else 15 - j / (v.toNat + 1)

section

variable {v : BitVec 4} {loop : Bool} {j : Nat} {e : Envelope}

/-- The level below a level, where the divider has run out: after 0 comes 15 with `loop`, and 0 without. -/
theorem decay_of_next_level {e' : Envelope} {level : Nat} (h : EnvClocked e e' loop) (hstart : e.start = false)
    (hend : e.divider.toNat = 0) (hdecay : e.decay.toNat = if loop then 15 - level % 16 else 15 - level) :
    e'.decay.toNat = if loop then 15 - (level + 1) % 16 else 15 - (level + 1) := by
  obtain ⟨-, -, -, -, -, hlevel⟩ := h
  obtain ⟨-, hdown, hwrap, hstay⟩ := hlevel hstart hend
  cases loop with
  | true =>
    rw [if_pos rfl] at hdecay ⊢
    by_cases hzero : e.decay.toNat = 0
    · rw [hwrap hzero rfl]; omega
    · rw [hdown hzero]; omega
  | false =>
    rw [if_neg Bool.false_ne_true] at hdecay ⊢
    by_cases hzero : e.decay.toNat = 0
    · rw [hstay hzero rfl]; omega
    · rw [hdown hzero]; omega

/-- One more clock: the divider counts down within a level, and at its end the next level begins. -/
theorem Envelope.DecayedFor.clock (h : e.DecayedFor v loop j) : (e.clock loop).DecayedFor v loop (j + 1) := by
  obtain ⟨hstart, hvolume, hdivider, hdecay⟩ := h
  have hclocked := e.clock_envClocked loop
  have ⟨_, hvolume', hstart', _, hcount, hlevel⟩ := hclocked
  have hlt : j % (v.toNat + 1) < v.toNat + 1 := Nat.mod_lt j v.toNat.succ_pos
  by_cases hend : e.divider.toNat = 0
  · obtain ⟨hdiv, hmod⟩ := succ_div_mod_of_eq (j := j) (m := v.toNat + 1) (by omega)
    obtain ⟨hreload, -⟩ := hlevel hstart hend
    refine ⟨hstart', hvolume'.trans hvolume, ?_, ?_⟩
    · rw [hmod, hreload, hvolume, Nat.sub_zero]
    · rw [hdiv]
      exact decay_of_next_level hclocked hstart hend hdecay
  · obtain ⟨hdiv, hmod⟩ := succ_div_mod_of_lt (j := j) (m := v.toNat + 1) (by omega)
    obtain ⟨hsame, hdown⟩ := hcount hstart hend
    refine ⟨hstart', hvolume'.trans hvolume, ?_, ?_⟩
    · rw [hmod, hdown, hdivider, Nat.sub_sub]
    · rw [hdiv, hsame, hdecay]

theorem Envelope.decayedFor_iterate_clock (hstart : e.start = false) (hdecay : e.decay.toNat = 15)
    (hdivider : e.divider = e.volume) (loop : Bool) (j : Nat) :
    ((fun e : Envelope => e.clock loop)^[j] e).DecayedFor e.volume loop j := by
  induction j with
  | zero => exact ⟨hstart, rfl, by simp [hdivider], by simp [hdecay]⟩
  | succ j ih =>
    rw [Function.iterate_succ_apply']
    exact ih.clock

end

/-! ### A length counter over many clocks -/

theorem lenClock_iterate_of_disabled (halt : Bool) (counter : Byte) {k : Nat} (hk : 1 ≤ k) :
    (fun l => lenClock l false halt)^[k] counter = 0 := by
  obtain ⟨m, rfl⟩ := Nat.exists_eq_add_of_le' hk
  rw [Function.iterate_succ_apply', lenClock_of_disabled]

theorem lenClock_iterate_of_halted (counter : Byte) (k : Nat) :
    (fun l => lenClock l true true)^[k] counter = counter :=
  Function.iterate_fixed (lenClock_of_halted counter) k

theorem lenClock_iterate_of_running_toNat (counter : Byte) (k : Nat) :
    ((fun l => lenClock l true false)^[k] counter).toNat = counter.toNat - k := by
  induction k with
  | zero => rfl
  | succ k ih => rw [Function.iterate_succ_apply', lenClock_of_running_toNat, ih, Nat.sub_sub]

/-! ### The units of the block, over many executions of the event that clocks them -/

section

variable {s t : State} {n : Nat} {env : ApuState → Envelope} {halt : ApuState → Bool}
  (hclock : ∀ a, env a.quarterFrame = (env a).clock (halt a)) (hkeep : ∀ a, halt a.quarterFrame = halt a)

include hclock hkeep

theorem execTimes_apuQuarter_envelope (hrun : execTimes n .apuQuarter s = .next t) :
    env t.apu = (fun e : Envelope => e.clock (halt s.apu))^[n] (env s.apu) := by
  refine execTimes_clocks (fun v => env v.apu) (fun v => halt v.apu) (fun loop e => e.clock loop)
    (fun v u hexec => ?_) hrun
  cases hexec
  exact ⟨hclock v.apu, hkeep v.apu⟩

/-- Rule R121's worked period, for an envelope that a quarter-frame event clocks. -/
theorem execTimes_apuQuarter_schedule (hrun : execTimes n .apuQuarter s = .next t)
    (hstart : (env s.apu).start = false) (hdecay : (env s.apu).decay.toNat = 15)
    (hdivider : (env s.apu).divider = (env s.apu).volume) :
    let v := (env s.apu).volume.toNat
    (env t.apu).volume = (env s.apu).volume ∧
    (env t.apu).divider.toNat = v - n % (v + 1) ∧
    (halt s.apu = true → (env t.apu).decay.toNat = 15 - n / (v + 1) % 16) ∧
    (halt s.apu = false → (env t.apu).decay.toNat = 15 - n / (v + 1)) := by
  rw [execTimes_apuQuarter_envelope hclock hkeep hrun]
  have h := Envelope.decayedFor_iterate_clock hstart hdecay hdivider (halt s.apu) n
  exact ⟨h.volume, h.divider, fun hloop => h.decay.trans (if_pos hloop),
    fun hloop => h.decay.trans (if_neg (Bool.eq_false_iff.1 hloop))⟩

end

section

variable {s t : State} {n : Nat} {length : ApuState → Byte} {enable halt : ApuState → Bool}
  (hclock : ∀ a inbox side, length (a.halfFrame inbox side) = lenClock (length a) (enable a) (halt a))
  (hkeep : ∀ a inbox side, (enable (a.halfFrame inbox side), halt (a.halfFrame inbox side)) = (enable a, halt a))

include hclock hkeep

theorem execTimes_apuHalf_length (hrun : execTimes n .apuHalf s = .next t) :
    length t.apu = (fun l => lenClock l (enable s.apu) (halt s.apu))^[n] (length s.apu) := by
  refine execTimes_clocks (fun v => length v.apu) (fun v => (enable v.apu, halt v.apu))
    (fun c l => lenClock l c.1 c.2) (fun v u hexec => ?_) hrun
  cases hexec
  exact ⟨hclock v.apu v.inbox v.side, hkeep v.apu v.inbox v.side⟩

/-- Rule R123's two properties and its count, for a length counter that a half-frame event clocks. -/
theorem execTimes_apuHalf_schedule (hrun : execTimes n .apuHalf s = .next t) :
    (enable s.apu = true → halt s.apu = true → length t.apu = length s.apu) ∧
    (enable s.apu = false → 1 ≤ n → (length t.apu).toNat = 0) ∧
    (enable s.apu = true → halt s.apu = false → (length t.apu).toNat = (length s.apu).toNat - n) := by
  rw [execTimes_apuHalf_length hclock hkeep hrun]
  refine ⟨fun henable hhalt => ?_, fun henable hn => ?_, fun henable hhalt => ?_⟩
  · rw [henable, hhalt, lenClock_iterate_of_halted]
  · rw [henable, lenClock_iterate_of_disabled _ _ hn]
    rfl
  · rw [henable, hhalt, lenClock_iterate_of_running_toNat]

end

/-! ### The sweep `mute` flags -/

theorem State.sweepMuted_iff (s : State) (channel : PulseChannel) :
    s.sweepMuted channel = true ↔ s.timerReload channel < 8 ∨ 0x7FF < s.timerReload channel :=
  sweepMute_iff _

/-! ### The register writes of the APU -/

/-- The table read at an index below its size needs no default. -/
theorem toList_getD_eq_tableLength (c : Cfg) (index : BitVec 5) :
    c.lengthTable.toList.getD index.toNat 0 = tableLength c index := by
  rw [List.getD_eq_getElem _ _ (by simpa using index.isLt), Vector.getElem_toList]
  rfl

/-! ### The statements -/

/-- Settles O56: every quarter-frame event clocks an envelope, and each clock keeps rule R121's worked period. -/
theorem envelopeDecaySchedule : Obligations.EnvelopeDecaySchedule := by
  intro s j
  obtain ⟨t, hrun⟩ := execTimes_completes (fun v => ⟨_, exec_apuQuarter v⟩) j s
  refine ⟨t, hrun, ?_⟩
  simp only [List.forall_mem_cons, List.not_mem_nil, false_implies, implies_true, and_true]
  exact ⟨execTimes_apuQuarter_schedule (env := (·.envP1)) (fun _ => rfl) (fun _ => rfl) hrun,
    execTimes_apuQuarter_schedule (env := (·.envP2)) (fun _ => rfl) (fun _ => rfl) hrun,
    execTimes_apuQuarter_schedule (env := (·.envN)) (fun _ => rfl) (fun _ => rfl) hrun⟩

/-- Settles O57: every half-frame event clocks a length counter under the two flags that it keeps. -/
theorem lengthCountersOverManyHalfFrames : Obligations.LengthCountersOverManyHalfFrames := by
  intro s k
  obtain ⟨t, hrun⟩ := execTimes_completes (fun v => ⟨_, exec_apuHalf v⟩) k s
  refine ⟨t, hrun, ?_⟩
  simp only [List.forall_mem_cons, List.not_mem_nil, false_implies, implies_true, and_true]
  exact ⟨execTimes_apuHalf_schedule (length := (·.lenP1)) (fun _ _ _ => rfl) (fun _ _ _ => rfl) hrun,
    execTimes_apuHalf_schedule (length := (·.lenP2)) (fun _ _ _ => rfl) (fun _ _ _ => rfl) hrun,
    execTimes_apuHalf_schedule (length := (·.lenT)) (fun _ _ _ => rfl) (fun _ _ _ => rfl) hrun,
    execTimes_apuHalf_schedule (length := (·.lenN)) (fun _ _ _ => rfl) (fun _ _ _ => rfl) hrun⟩

/-- Settles O60: whatever an operation did, it left the operands beside it as they were presented. -/
theorem envelopeOutputEffectiveMirrorAndSweepMute : Obligations.EnvelopeOutputEffectiveMirrorAndSweepMute := by
  refine ⟨fun e => ⟨fun h => if_pos h, fun h => if_neg (Bool.eq_false_iff.1 h)⟩, fun c m hm => ?_, fun c => rfl,
    fun s u t rest hpending hstep => ⟨fun hnone => ?_, fun reload1 reload2 hsome => ?_⟩⟩
  · cases m with
    | hardware => exact absurd rfl hm
    | _ => rfl
  · have hside : u.side = t.side := (step_effect hpending hstep).side_eq
    simp only [State.sweepMuted_iff, State.timerReload_of_none hnone, hside, and_self]
  · simp only [State.sweepMuted_iff, State.timerReload_of_some hsome, and_self]

/-- Settles O46: each write is the register write that changes the fields named. -/
theorem envelopeWrites : Obligations.EnvelopeWrites :=
  fun _ _ _ _ _ => ⟨rfl, rfl, rfl⟩

/-- Settles O47: each write is the register write that changes the fields named, the counter to the entry of the
table. -/
theorem lengthWrites : Obligations.LengthWrites := by
  intro s index high loaded
  have hloaded : loaded = tableLength s.cfg index := toList_getD_eq_tableLength s.cfg index
  rw [hloaded]
  exact ⟨rfl, rfl, rfl, rfl⟩

/-- Settles O48: each write is the register write that changes the fields named. -/
theorem linearStatusAndDmcWrites : Obligations.LinearStatusAndDmcWrites :=
  fun _ _ _ _ _ _ _ _ _ => ⟨rfl, rfl, rfl, rfl, rfl, rfl⟩

end Sys2Proof.Machine
end

section
/-! PROOFS. The statement of `42_apu_mixer.md` about the exact mixer. On non-negative samples the output is
the sum of two curves, one of the pulses and one of the triangle and noise, and both are the same curve
`scale * x / (offset + base * x)` with other constants: each part of rule R156 is a property of it. -/

namespace Sys2Proof.Machine

/-! ### The curve of a channel group -/

/-- `scale / (offset / x + base)` with its value 0 at 0, written without the case (rules R152, R153). -/
def mixCurve (scale offset base x : Rat) : Rat := scale * x / (offset + base * x)

/-- What rule R156 says of one channel group that grows towards `bound`. -/
structure Compresses (f : Rat → Rat) (bound : Rat) : Prop where
  silent : f 0 = 0
  strictMonoOn : StrictMonoOn f (Set.Ici 0)
  lt_bound : ∀ {x}, 0 ≤ x → f x < bound
  add_lt : ∀ {x y}, 0 < x → 0 < y → f (x + y) < f x + f y

section
variable {f : Rat → Rat} {bound x : Rat}

theorem Compresses.nonneg (h : Compresses f bound) (hx : 0 ≤ x) : 0 ≤ f x :=
  h.silent ▸ h.strictMonoOn.monotoneOn Set.self_mem_Ici hx hx

theorem Compresses.eq_zero_iff (h : Compresses f bound) (hx : 0 ≤ x) : f x = 0 ↔ x = 0 := by
  rw [← h.strictMonoOn.injOn.eq_iff hx Set.self_mem_Ici, h.silent]

end

section
variable {scale offset base x y : Rat}

/-- Dividing by `offset / x + base` is following the curve; at 0 the curve gives the 0 of rule R153. -/
theorem ite_div_eq_mixCurve (x : Rat) :
    (if x = 0 then 0 else scale / (offset / x + base)) = mixCurve scale offset base x := by
  unfold mixCurve
  split_ifs with hx
  · simp [hx]
  · rw [div_add' _ _ _ hx, div_div_eq_mul_div]

theorem mixCurve_mul (gain : Rat) :
    mixCurve scale offset base x * gain = mixCurve (scale * gain) offset base x := by
  unfold mixCurve
  ring

variable (hscale : 0 < scale) (hoffset : 0 < offset) (hbase : 0 < base)
include hscale hoffset hbase

theorem mixCurve_lt_mixCurve (hx : 0 ≤ x) (hxy : x < y) :
    mixCurve scale offset base x < mixCurve scale offset base y := by
  have hy : 0 ≤ y := hx.trans hxy.le
  have key : scale * offset * x < scale * offset * y := by gcongr
  unfold mixCurve
  rw [div_lt_div_iff₀ (by positivity) (by positivity)]
  linarith

theorem mixCurve_lt (hx : 0 ≤ x) : mixCurve scale offset base x < scale / base := by
  have key : 0 < scale * offset := mul_pos hscale hoffset
  unfold mixCurve
  rw [div_lt_div_iff₀ (by positivity) hbase]
  linarith

/-- Together, two samples raise the divisor that each of them has alone. -/
theorem mixCurve_add_lt (hx : 0 < x) (hy : 0 < y) :
    mixCurve scale offset base (x + y) <
      mixCurve scale offset base x + mixCurve scale offset base y := by
  unfold mixCurve
  rw [mul_add scale, add_div]
  gcongr <;> linarith

theorem compresses_mixCurve : Compresses (mixCurve scale offset base) (scale / base) where
  silent := by simp [mixCurve]
  strictMonoOn _ hx _ _ hxy := mixCurve_lt_mixCurve hscale hoffset hbase hx hxy
  lt_bound := mixCurve_lt hscale hoffset hbase
  add_lt := mixCurve_add_lt hscale hoffset hbase

end

/-! ### The two channel groups -/

/-- The share of the output that the sum of the pulses gives (rule R152). -/
def pulseShare : Rat → Rat :=
  mixCurve (mixConstants.pulseScale * mixConstants.gain) mixConstants.pulseNumerator mixConstants.base

/-- The share of the output that the weighted sum of triangle and noise gives (rule R152). -/
def tndShare : Rat → Rat := mixCurve (mixConstants.tndScale * mixConstants.gain) 1 mixConstants.base

/-- The weighted sum of triangle and noise (rule R152). -/
def tndSum (t n : Rat) : Rat := t / 8227 + n / 12241

theorem pulseShare_compresses : Compresses pulseShare (9588 / 1000) := by
  have hbound : mixConstants.pulseScale * mixConstants.gain / mixConstants.base = 9588 / 1000 := by
    norm_num [mixConstants]
  rw [← hbound]
  apply compresses_mixCurve <;> norm_num [mixConstants]

theorem tndShare_compresses : Compresses tndShare (15979 / 1000) := by
  have hbound : mixConstants.tndScale * mixConstants.gain / mixConstants.base = 15979 / 1000 := by
    norm_num [mixConstants]
  rw [← hbound]
  apply compresses_mixCurve <;> norm_num [mixConstants]

theorem mixExact_eq_shares (o : MixOperands) :
    mixExact mixConstants o = pulseShare (o.p1 + o.p2) + tndShare (tndSum o.t o.n) := by
  rw [mixExact_eq, ite_div_eq_mixCurve, ite_div_eq_mixCurve, add_mul, mixCurve_mul, mixCurve_mul]
  rfl

section
variable {t n t' n' : Rat}

@[simp] theorem tndSum_zero : tndSum 0 0 = 0 := by simp [tndSum]

theorem tndSum_nonneg (ht : 0 ≤ t) (hn : 0 ≤ n) : 0 ≤ tndSum t n := by
  unfold tndSum
  positivity

theorem tndSum_eq_zero_iff (ht : 0 ≤ t) (hn : 0 ≤ n) : tndSum t n = 0 ↔ t = 0 ∧ n = 0 := by
  rw [tndSum, add_eq_zero_iff_of_nonneg (by positivity) (by positivity)]
  simp

theorem tndSum_lt_of_triangle (h : t < t') : tndSum t n < tndSum t' n := by
  unfold tndSum
  gcongr

theorem tndSum_lt_of_noise (h : n < n') : tndSum t n < tndSum t n' := by
  unfold tndSum
  gcongr

end

/-! ### The statement -/

/-- Settles O59: the output is the sum of the shares of the two groups, each of which compresses. -/
theorem mixIsBoundedAndNotAdditive : Obligations.MixIsBoundedAndNotAdditive := by
  intro p1 p2 t n hp1 hp2 ht hn
  have hpulse : 0 ≤ p1 + p2 := add_nonneg hp1 hp2
  have htnd : 0 ≤ tndSum t n := tndSum_nonneg ht hn
  have hpulseShare : 0 ≤ pulseShare (p1 + p2) := pulseShare_compresses.nonneg hpulse
  have htndShare : 0 ≤ tndShare (tndSum t n) := tndShare_compresses.nonneg htnd
  have hpulseLt := pulseShare_compresses.lt_bound hpulse
  have htndLt := tndShare_compresses.lt_bound htnd
  have hgrows {sum : Rat} (h : tndSum t n < sum) : tndShare (tndSum t n) < tndShare sum :=
    tndShare_compresses.strictMonoOn htnd (htnd.trans h.le) h
  simp only [mixExact_eq_shares, tndSum_zero, add_zero, zero_add, pulseShare_compresses.silent,
    tndShare_compresses.silent]
  refine ⟨?silent, add_nonneg hpulseShare htndShare, ?bounded, hpulseLt, htndLt, ?pulses,
    fun t' h => ?triangle, fun n' h => ?noise, pulseShare_compresses.add_lt⟩
  case silent =>
    rw [add_eq_zero_iff_of_nonneg hpulseShare htndShare, pulseShare_compresses.eq_zero_iff hpulse,
      tndShare_compresses.eq_zero_iff htnd, add_eq_zero_iff_of_nonneg hp1 hp2,
      tndSum_eq_zero_iff ht hn, and_assoc]
  case bounded => linarith
  case pulses =>
    intro q1 q2 hq1 hq2 h
    gcongr
    exact pulseShare_compresses.strictMonoOn hpulse (add_nonneg hq1 hq2) h
  case triangle => gcongr; exact hgrows (tndSum_lt_of_triangle h)
  case noise => gcongr; exact hgrows (tndSum_lt_of_noise h)

end Sys2Proof.Machine
end

section
/-! PROOFS. The statements of `43_cartridge_contract.md`: that an operation of the selected table or of the APU table
always answers a next state, so that a step does, and what the events of a scanline counter do where there is none. -/

namespace Sys2Proof.Machine

open Stated

section

variable {s : State}

/-! ### An operation of the table of the block's mapper answers a next state -/

theorem onM0_completes (h : s.map.id = .m0) {u : State} : ∃ t, onM0 s u = .next t := by
  cases hmap : s.map with
  | m0 => exact ⟨_, onM0_of_map hmap u⟩
  | _ => cases hmap ▸ h

theorem onM1_completes (h : s.map.id = .m1) {f : M1State → State} : ∃ t, onM1 s f = .next t := by
  cases hmap : s.map with
  | m1 r => exact ⟨_, onM1_of_map hmap f⟩
  | _ => cases hmap ▸ h

theorem onM2_completes (h : s.map.id = .m2) {f : M2State → State} : ∃ t, onM2 s f = .next t := by
  cases hmap : s.map with
  | m2 r => exact ⟨_, onM2_of_map hmap f⟩
  | _ => cases hmap ▸ h

theorem onM3_completes (h : s.map.id = .m3) {f : M3State → State} : ∃ t, onM3 s f = .next t := by
  cases hmap : s.map with
  | m3 r => exact ⟨_, onM3_of_map hmap f⟩
  | _ => cases hmap ▸ h

theorem onM4_completes (h : s.map.id = .m4) {f : M4State → State} : ∃ t, onM4 s f = .next t := by
  cases hmap : s.map with
  | m4 r => exact ⟨_, onM4_of_map hmap f⟩
  | _ => cases hmap ▸ h

theorem onM9_completes (h : s.map.id = .m9) {f : M9State → State} : ∃ t, onM9 s f = .next t := by
  cases hmap : s.map with
  | m9 r => exact ⟨_, onM9_of_map hmap f⟩
  | _ => cases hmap ▸ h

/-! ### What is performed -/

/-- An instruction of a mapper's table runs on the blocks of that mapper, one of the APU table on every block (rules
R92, R280). -/
theorem exec_completes {i : Instr} (hi : ∀ m, i.mapper = some m → s.map.id = m) : ∃ t, exec i s = .next t := by
  cases i with
  | m0CpuRead | m0CpuWrite | m0PpuRead | m0PpuWrite | m0Reset | m0MirrorQ | m0Scanline | m0IrqState | m0IrqClear =>
    exact onM0_completes (hi .m0 rfl)
  | m1SramRead | m1SramWrite | m1SerialReset | m1SerialShift | m1CpuRead | m1PpuRead | m1PpuWrite | m1Reset
  | m1MirrorQ | m1Scanline | m1IrqState | m1IrqClear => exact onM1_completes (hi .m1 rfl)
  | m2BankSelect | m2CpuRead | m2PpuRead | m2PpuWrite | m2Reset | m2MirrorQ | m2Scanline | m2IrqState
  | m2IrqClear => exact onM2_completes (hi .m2 rfl)
  | m3ChrSelect | m3CpuRead | m3PpuRead | m3PpuWrite | m3Reset | m3MirrorQ | m3Scanline | m3IrqState
  | m3IrqClear => exact onM3_completes (hi .m3 rfl)
  | m4SramRead | m4SramWrite | m4BankSelect | m4BankData | m4Mirror | m4RamProtect | m4IrqLatch | m4IrqReload
  | m4IrqDisable | m4IrqEnable | m4CpuRead | m4PpuRead | m4PpuWrite | m4Reset | m4MirrorQ | m4Scanline
  | m4IrqState | m4IrqClear => exact onM4_completes (hi .m4 rfl)
  | m9CpuRead | m9NopWrite | m9PrgSelect | m9ChrFd0 | m9ChrFe0 | m9ChrFd1 | m9ChrFe1 | m9Mirror
  | m9PpuReadFd0 | m9PpuReadFe0 | m9PpuReadFd1 | m9PpuReadFe1 | m9PpuRead | m9PpuWrite | m9Reset | m9MirrorQ
  | m9Scanline | m9IrqState | m9IrqClear => exact onM9_completes (hi .m9 rfl)
  | apuP1Env | apuP1Sweep | apuP1Tlo | apuP1Len | apuP2Env | apuP2Sweep | apuP2Tlo | apuP2Len | apuTriLinear
  | apuUnused4009 | apuTriTlo | apuTriLen | apuNoiEnv | apuUnused400d | apuNoiPeriod | apuNoiLen | apuDmc0
  | apuDmc1 | apuDmc2 | apuDmc3 | apuStatus | apuFrame | apuTick | apuQuarter | apuHalf | apuMix | apuReset =>
    exact ⟨_, rfl⟩
  | sysTick =>
    by_cases htick : s.apu.tick % 6 = 0
    · exact ⟨_, exec_sysTick_of_dvd htick⟩
    · exact ⟨_, exec_sysTick_of_not_dvd htick⟩

/-- The mapper of a decoded instruction, where it has one, is the one whose table was read (rule R92). -/
theorem decode_mapper_eq {m m' : MapperId} {w : Tw} {i : Instr} (h : decode m w = .ok i)
    (hi : i.mapper = some m') : m = m' := by
  obtain hmapper | hapu := decode_cases h
  · exact Option.some.inj ((decodeMapper_isRow hmapper).1.symm.trans hi)
  · cases (decodeApu_mapper hapu).symm.trans hi

theorem perform_of_error {word : Tw} {reason : Reject} (h : decode s.mapperId word = .error reason) :
    s.perform word = .next (s.rejected reason) := by
  simp [State.perform, h]

/-- Every word is performed on a block that has the mapper its words are read for (rules R97, R280). -/
theorem perform_completes (hvariant : s.map.id = s.mapperId) (word : Tw) : ∃ t, s.perform word = .next t := by
  cases hdecode : decode s.mapperId word with
  | ok i =>
    rw [perform_of_decode hdecode]
    exact exec_completes fun _ hm => hvariant.trans (decode_mapper_eq hdecode hm)
  | error reason => exact ⟨_, perform_of_error hdecode⟩

end

/-! ### The statements -/

/-- Settles O9: with no operation issued the state stays, and any word issued is performed. -/
theorem everyStepHasANextState : Obligations.EveryStepHasANextState := by
  intro s hvariant
  cases hp : s.pending with
  | nil => exact ⟨s, step_of_idle hp⟩
  | cons tr rest =>
    rw [step_eq_perform hp]
    exact perform_completes (s := s.begin tr rest) hvariant tr.word

/-- Settles O31: each of these mappers has the three rows of R170, which answer and do nothing else. -/
theorem noScanlineCounterOutsideMapperFour : Obligations.NoScanlineCounterOutsideMapperFour := by
  rintro s m rfl hm
  cases hmap : s.map with
  | m0 => exact ⟨onM0_of_map hmap _, onM0_of_map hmap _, onM0_of_map hmap _⟩
  | m1 => exact ⟨onM1_of_map hmap _, onM1_of_map hmap _, onM1_of_map hmap _⟩
  | m2 => exact ⟨onM2_of_map hmap _, onM2_of_map hmap _, onM2_of_map hmap _⟩
  | m3 => exact ⟨onM3_of_map hmap _, onM3_of_map hmap _, onM3_of_map hmap _⟩
  | m9 => exact ⟨onM9_of_map hmap _, onM9_of_map hmap _, onM9_of_map hmap _⟩
  | m4 => exact absurd (congrArg MapState.id hmap) hm

end Sys2Proof.Machine
end

section
/-! PROOFS. The statements of `44_mapper000.md`, and what the rules of mappers 1, 2, 3, 4 and 9 have in common with it:
the fixed PRG window, pattern memory at its own address, PPU writes, and the mirroring report. -/

namespace Sys2Proof.Machine

open Stated

section

variable {s : State} {c : Cfg}

/-! ### The answers in the statements' words -/

theorem State.answer_eq_answered (s : State) (resp : Response) : s.answer resp = answered s resp := rfl

theorem State.finishRead_offset (s : State) (space : Space) (off : Nat) :
    s.finishRead (.offset space off) = readAt s space off := by
  cases space <;> rfl

theorem State.finishCpuWrite_of_readOnly (h : s.cfg.prgWritable = false) (off : Nat) (v : Byte) :
    s.finishCpuWrite (.offset .prg off) v = answered s (.write (.offset .prg off)) := by
  simp [State.finishCpuWrite, h, State.answer_eq_answered]

theorem State.finishCpuWrite_of_writable (h : s.cfg.prgWritable = true) (off : Nat) (v : Byte) :
    s.finishCpuWrite (.offset .prg off) v =
      answered (s.setPrg (Memory.write s.prg off v)) (.write (.offset .prg off)) := by
  simp [State.finishCpuWrite, h, State.answer_eq_answered]

/-! ### Offsets that are inside their array -/

/-- The offset of the fixed PRG window: with one bank the 32 KiB of addresses show it twice (rules R182, R223). -/
def fixedPrgOffset (c : Cfg) (within : BitVec 15) : Nat :=
  if c.prgBanks > 1 then within.toNat else within.toNat % 0x4000

theorem fixedPrgRaw_eq (c : Cfg) (within : BitVec 15) : fixedPrgRaw c within = fixedPrgOffset c within := by
  have hlow : lowBits 15 within = within.toNat := (lowBits_eq_mod within).trans (Nat.mod_eq_of_lt within.isLt)
  have hmasked : lowBits 14 within = within.toNat % 0x4000 := lowBits_eq_mod within
  rw [fixedPrgRaw, fixedPrgOffset, hlow, hmasked]

theorem fixedPrgOffset_lt (hbanks : 1 ≤ c.prgBanks) (within : BitVec 15) : fixedPrgOffset c within < c.prgSize := by
  unfold fixedPrgOffset Params.prgSize
  split
  · have hlt := within.isLt
    omega
  · omega

/-- The fixed PRG window is inside the array, so reducing it to the array leaves it (rule R163). -/
theorem prgResult_fixedPrgRaw (hbanks : 1 ≤ c.prgBanks) (within : BitVec 15) :
    prgResult c (fixedPrgRaw c within) = .offset .prg (fixedPrgOffset c within) := by
  rw [prgResult, wrapPrg, fixedPrgRaw_eq, Nat.mod_eq_of_lt (fixedPrgOffset_lt hbanks within)]

/-- CHR has at least 8 KiB, so reducing a pattern address to the array leaves it (rules R163, R184). -/
theorem chrResult_within (c : Cfg) (within : BitVec 13) : chrResult c within.toNat = .offset .chr within.toNat := by
  have hlt : within.toNat < c.chrSize := by
    have hwithin := within.isLt
    unfold Params.chrSize
    omega
  rw [chrResult, wrapChr, Nat.mod_eq_of_lt hlt]

/-! ### Operations named by the mapper they belong to -/

/-- On a block of an instruction's own mapper, the next state is the only one it can answer. -/
theorem exec_eq_next {i : Instr} {m : MapperId} {u : State} (hi : i.mapper = some m) (hm : s.map.id = m)
    (hunique : ∀ t, exec i s = .next t → u = t) : exec i s = .next u := by
  obtain ⟨t, ht⟩ := exec_completes (s := s) fun _ h => hm.trans (Option.some.inj (hi.symm.trans h))
  rw [ht, ← hunique t ht]

theorem exec_patternWrite {i : Instr} {within : BitVec 13} {value : Byte} (h : PatternWrite i within value)
    (hm : i.mapper = some s.map.id) : exec i s = .next (s.finishPpuWrite (chrRamResult s.cfg within) value) := by
  refine exec_eq_next hm rfl fun t ht => ?_
  cases h with
  | m0 => exact onM0_elim ht rfl
  | m1 => exact onM1_elim ht fun _ _ => rfl
  | m2 => exact onM2_elim ht fun _ _ => rfl

/-- The mirroring mode of mapper 1, with `ctrl[1:0]` as a remainder (rule R202). -/
theorem m1Mirror_eq (ctrl : BitVec 5) : m1Mirror ctrl =
    if ctrl.toNat % 4 = 0 then .oneScreenLo else if ctrl.toNat % 4 = 1 then .oneScreenHi
      else if ctrl.toNat % 4 = 2 then .vertical else .horizontal := by
  have hfield : (ctrl.extractLsb' 0 2).toNat = ctrl.toNat % 4 := lowBits_eq_mod (n := 2) ctrl
  unfold m1Mirror
  rw [hfield]
  split <;> simp_all

end

/-! ### The statements -/

/-- Settles O25: both windows lie inside their arrays, so a read answers the byte at the masked address. -/
theorem fixedWindowsReadStraightThrough : Obligations.FixedWindowsReadStraightThrough := by
  intro s a p hbanks
  have hprg : s.finishRead (prgResult s.cfg (fixedPrgRaw s.cfg a)) = readAt s .prg (fixedPrgOffset s.cfg a) := by
    rw [prgResult_fixedPrgRaw hbanks, State.finishRead_offset]
  have hchr : s.finishRead (chrResult s.cfg p.toNat) = readAt s .chr p.toNat := by
    rw [chrResult_within, State.finishRead_offset]
  exact ⟨fun hmap => (onM0_of_map hmap _).trans (congrArg _ hprg),
    fun _ hmap => (onM3_of_map hmap _).trans (congrArg _ hprg),
    fun hmap => (onM0_of_map hmap _).trans (congrArg _ hchr),
    fun _ hmap => (onM2_of_map hmap _).trans (congrArg _ hchr)⟩

/-- Settles O26: the write is claimed at the offset of the read, and what it stores there is read back. -/
theorem mapperZeroWriteStoresOnlyIfWritable : Obligations.MapperZeroWriteStoresOnlyIfWritable := by
  intro s a v hmap hbanks hwf
  have hwrite : exec (.m0CpuWrite a v) s = .next (s.finishCpuWrite (.offset .prg (fixedPrgOffset s.cfg a)) v) := by
    rw [← prgResult_fixedPrgRaw hbanks]
    exact onM0_of_map hmap _
  exact ⟨fun hreadOnly => hwrite.trans (congrArg _ (State.finishCpuWrite_of_readOnly hreadOnly _ v)),
    fun hwritable => ⟨Memory.write s.prg (fixedPrgOffset s.cfg a) v,
      hwrite.trans (congrArg _ (State.finishCpuWrite_of_writable hwritable _ v)), fun _ => Memory.read_write hwf⟩⟩

/-- Settles O27: mappers 0, 1 and 2 store at the address where CHR is RAM; every other write is not claimed. -/
theorem patternWrites : Obligations.PatternWrites := by
  intro s a v i hwf
  constructor
  · intro hi
    have hexec : exec i s = .next (s.finishPpuWrite (chrRamResult s.cfg a) v) := by
      obtain ⟨rfl, hm⟩ | ⟨rfl, hm⟩ | ⟨rfl, hm⟩ := hi
      · exact exec_patternWrite (.m0 a v) (congrArg some hm.symm)
      · exact exec_patternWrite (.m1 a v) (congrArg some hm.symm)
      · exact exec_patternWrite (.m2 a v) (congrArg some hm.symm)
    obtain ⟨hram, hresult⟩ | ⟨hrom, hresult⟩ := chrRamResult_cases s.cfg a <;> rw [hresult] at hexec
    · exact ⟨fun _ => ⟨Memory.write s.chr a.toNat v, hexec, fun _ => Memory.read_write hwf⟩,
        fun hrom => absurd hram hrom⟩
    · exact ⟨fun hram => absurd hram hrom, fun _ => hexec⟩
  · rintro (⟨rfl, hm⟩ | ⟨rfl, hm⟩ | ⟨rfl, hm⟩)
    · exact exec_eq_next rfl hm fun _ h => onM3_elim h fun _ _ => rfl
    · exact exec_eq_next rfl hm fun _ h => onM4_elim h fun _ _ => rfl
    · exact exec_eq_next rfl hm fun _ h => onM9_elim h fun _ _ => rfl

/-- Settles O30: each mapper answers its own mode and nothing but the outputs changes. -/
theorem mirrorReports : Obligations.MirrorReports := by
  intro s
  refine ⟨fun hm => ?m0, fun r hmap => ?m1, fun hm => ?m2, fun hm => ?m3, fun r hmap => ?m4, fun r hmap => ?m9⟩
  case m0 => exact exec_eq_next rfl hm fun _ h => onM0_elim h rfl
  case m1 =>
    rw [← m1Mirror_eq]
    exact onM1_of_map hmap _
  case m2 => exact exec_eq_next rfl hm fun _ h => onM2_elim h fun _ _ => rfl
  case m3 => exact exec_eq_next rfl hm fun _ h => onM3_elim h fun _ _ => rfl
  case m4 => exact onM4_of_map hmap _
  case m9 => exact onM9_of_map hmap _

end Sys2Proof.Machine
end

section
/-! PROOFS. The statements of `45_mapper001.md`: the cartridges that are refused, static RAM, and the serial port and
the windows of mapper 1. -/

namespace Sys2Proof.Machine

open Stated

/-! ### The refusals of a cartridge -/

section

variable {c : Cartridge} {m : MapperId} {n : Nat}

theorem ofNumber_eq_none (h : n ∉ [0, 1, 2, 3, 4, 9]) : MapperId.ofNumber n = none := by
  unfold MapperId.ofNumber
  split
  case h_7 => rfl
  all_goals exact absurd (by decide) h

/-- Each of the six numbers is the number of a variant, and selects it (rules R2, R6). -/
theorem exists_ofNumber (h : n ∈ [0, 1, 2, 3, 4, 9]) : ∃ m, MapperId.ofNumber n = some m ∧ m.number = n := by
  simp only [List.mem_cons, List.not_mem_nil, or_false] at h
  obtain rfl | rfl | rfl | rfl | rfl | rfl := h <;> exact ⟨_, rfl, rfl⟩

theorem number_eq_one_iff : m.number = 1 ↔ m = .m1 := by
  cases m <;> decide

theorem construct_of_refused {e : ConfigRefusal} (h : checkCartridge c = .error e) : construct c = .error e := by
  simp [construct, h]

theorem checkCartridge_of_unsupported (h : MapperId.ofNumber c.mapperID = none) :
    checkCartridge c = .error (.unsupportedMapper c.mapperID) := by
  simp [checkCartridge, h]

theorem checkCartridge_of_noBanks (hm : MapperId.ofNumber c.mapperID = some m) (hbanks : c.params.prgBanks = 0) :
    checkCartridge c = .error .invalidConfig := by
  simp [checkCartridge, hm, hbanks]

theorem checkCartridge_of_largeMmc1 (hm : MapperId.ofNumber c.mapperID = some .m1)
    (hlarge : c.params.prgBanks > mmc1MaxPrgBanks) : checkCartridge c = .error .unsupportedLargeMmc1 := by
  have hbanks : c.params.prgBanks ≠ 0 := Nat.ne_zero_of_lt hlarge
  simp [checkCartridge, hm, hbanks, hlarge]

/-- Without a bank the refusal is the first row's, and it has the same name as that of the lengths. -/
theorem checkCartridge_of_wrongLength (hm : MapperId.ofNumber c.mapperID = some m)
    (hlarge : ¬ (m = .m1 ∧ c.params.prgBanks > mmc1MaxPrgBanks))
    (hlength : c.prg.length ≠ c.params.prgSize ∨ c.chr.length ≠ c.params.chrSize) :
    checkCartridge c = .error .invalidConfig := by
  simp only [checkCartridge, hm, if_neg hlarge, if_pos hlength, ite_self]

theorem construct_of_accepted (hm : MapperId.ofNumber c.mapperID = some m) (hbanks : 1 ≤ c.params.prgBanks)
    (hlarge : ¬ (m = .m1 ∧ c.params.prgBanks > mmc1MaxPrgBanks)) (hprg : c.prg.length = c.params.prgSize)
    (hchr : c.chr.length = c.params.chrSize) : ∃ s, construct c = .ok s := by
  have hcheck : checkCartridge c = .ok m := by
    simp [checkCartridge, hm, Nat.ne_zero_of_lt hbanks, hlarge, hprg, hchr]
  exact ⟨_, by rw [construct, hcheck]⟩

end

/-! ### Static RAM -/

section

variable {s : State} {rd wr : Instr} {index : BitVec 13} {v : Byte}

/-- Mappers 1 and 4 have the same two operations on static RAM (rules R193, R194, R232, R233). -/
theorem exec_sramAccess (h : (rd = .m1SramRead index ∧ wr = .m1SramWrite index v ∧ s.map.id = .m1) ∨
      (rd = .m4SramRead index ∧ wr = .m4SramWrite index v ∧ s.map.id = .m4)) :
    exec rd s = .next (s.sramRead index) ∧ exec wr s = .next (s.sramWrite index v) := by
  obtain ⟨rfl, rfl, hm⟩ | ⟨rfl, rfl, hm⟩ := h
  · exact ⟨exec_eq_next rfl hm fun _ h => onM1_elim h fun _ _ => rfl,
      exec_eq_next rfl hm fun _ h => onM1_elim h fun _ _ => rfl⟩
  · exact ⟨exec_eq_next rfl hm fun _ h => onM4_elim h fun _ _ => rfl,
      exec_eq_next rfl hm fun _ h => onM4_elim h fun _ _ => rfl⟩

end

/-! ### The serial port of mapper 1 -/

section

variable {s : State} {r : M1State} {g : Mmc1Gate} {step : Nat}

theorem M1State.gated_of_accepted (h : gateAccepts g r.lastStep step = true) (write : M1State → M1State) :
    r.gated g step write = { write r with lastStep := step } := if_pos h

theorem M1State.gated_of_rejected (h : gateAccepts g r.lastStep step = false) (write : M1State → M1State) :
    r.gated g step write = { r with lastStep := step } := if_neg (by simp [h])

/-- A shift write changes the registers of the serial port as its gate has it, and nothing else (rule R197). -/
theorem exec_serialShift (hmap : s.map = .m1 r) (bit : BitVec 1) (target : BitVec 2) :
    exec (.m1SerialShift bit target) s = .next (registersAre s
      (.m1 (r.gated s.cfg.mmc1Accept s.side.cpuStep fun q => q.shift bit target))) := onM1_of_map hmap _

theorem exec_serialReset (hmap : s.map = .m1 r) :
    exec .m1SerialReset s = .next (registersAre s
      (.m1 (r.gated s.cfg.mmc1Accept s.side.cpuStep M1State.serialReset))) := onM1_of_map hmap _

theorem shiftIn_eq_ofNat (sr : BitVec 5) (bit : BitVec 1) :
    shiftIn sr bit = BitVec.ofNat 5 (sr.toNat / 2 + 16 * bit.toNat) := by
  rw [← shiftIn_toNat, BitVec.ofNat_toNat, BitVec.setWidth_eq]

/-- Setting `ctrl[3:2]` leaves the mirroring field and the CHR mode (rules R26, R196). -/
theorem or_prgMode_three (ctrl : BitVec 5) :
    ctrl ||| 0x0C#5 = BitVec.ofNat 5 (ctrl.toNat % 4 + 12 + 16 * (ctrl.toNat / 16)) := by
  revert ctrl
  decide

theorem M1State.serialReset_eq (r : M1State) :
    r.serialReset = { r with
      sr := 0, cnt := 0
      ctrl := BitVec.ofNat 5 (r.ctrl.toNat % 4 + 12 + 16 * (r.ctrl.toNat / 16)) } := by
  rw [M1State.serialReset, or_prgMode_three]

end

/-! ### The windows of mapper 1 -/

section

variable (c : Cfg) (r : M1State)

theorem M1State.prgMode_eq : r.prgMode = r.ctrl.toNat / 4 % 4 := field_eq_div_mod r.ctrl 2 2

theorem M1State.chrMode_iff : r.chrMode = true ↔ r.ctrl.toNat / 16 = 1 := by
  have hlt := r.ctrl.isLt
  rw [M1State.chrMode, bit_eq_decide, decide_eq_true_iff]
  omega

/-- The 16 KiB bank that the CPU address shows on mapper 1 (rules R198, R199). -/
def m1PrgBank (within : BitVec 15) : Nat :=
  let high := within.toNat / 0x4000
  let prg := r.prg.toNat % 16
  if r.ctrl.toNat / 4 % 4 = 2 then (if high = 0 then 0 else prg)
  else if r.ctrl.toNat / 4 % 4 = 3 then (if high = 0 then prg else c.prgBanks - 1)
  else 2 * (prg / 2) + high

/-- In every mode the window is made of 16 KiB banks: a 32 KiB bank is two of them (rule R198). -/
theorem m1PrgRaw_eq (within : BitVec 15) :
    m1PrgRaw c r within = m1PrgBank c r within * 0x4000 + within.toNat % 0x4000 := by
  have hlt := within.isLt
  have hupper : within.getLsbD 14 = true ↔ ¬ within.toNat / 0x4000 = 0 := by
    rw [bit_eq_decide, decide_eq_true_iff]
    omega
  have hlow : lowBits 14 within = within.toNat % 0x4000 := lowBits_eq_mod within
  have hbank16 : r.bank16 = r.prg.toNat % 16 := lowBits_eq_mod (n := 4) r.prg
  unfold m1PrgRaw m1PrgBank
  simp only [← M1State.prgMode_eq, hupper, hlow, hbank16, ite_not, windowOffset]
  split
  next hmode =>
    rw [if_pos hmode]
    split <;> rfl
  next hmode =>
    have hnot : r.prgMode ≠ 2 := by omega
    rw [if_neg hnot, if_pos hmode]
    split <;> rfl
  next htwo hthree =>
    have hwhole : lowBits 15 within = within.toNat := (lowBits_eq_mod within).trans (Nat.mod_eq_of_lt hlt)
    have hbank32 : r.bank32 = r.prg.toNat / 2 % 8 := field_eq_div_mod r.prg 1 3
    rw [if_neg htwo, if_neg hthree, hwhole, hbank32]
    omega

/-- Clearing the low bit of an 8 KiB bank's number (rule R200). -/
theorem and_clear_low_toNat (bank : BitVec 5) : (bank &&& 0x1E#5).toNat = bank.toNat / 2 * 2 := by
  revert bank
  decide

/-- The CHR window of mapper 1 where CHR is ROM (rule R200). -/
theorem m1ChrRaw_of_rom (hrom : c.chrBanks ≠ 0) (within : BitVec 13) :
    m1ChrRaw c r within = if r.ctrl.toNat / 16 = 1 then
        (if within.toNat < 0x1000 then r.chr0.toNat else r.chr1.toNat) * 0x1000 + within.toNat % 0x1000
      else r.chr0.toNat / 2 * 2 * 0x1000 + within.toNat := by
  have hupper : within.getLsbD 12 = true ↔ ¬ within.toNat < 0x1000 := by
    have hlt := within.isLt
    rw [bit_eq_decide, decide_eq_true_iff]
    omega
  have hlow : lowBits 12 within = within.toNat % 0x1000 := lowBits_eq_mod within
  have hwhole : lowBits 13 within = within.toNat := (lowBits_eq_mod within).trans (Nat.mod_eq_of_lt within.isLt)
  rw [m1ChrRaw, if_neg hrom]
  simp only [M1State.chrMode_iff, hupper, hlow, hwhole, ite_not, windowOffset, and_clear_low_toNat, ite_mul, ite_add]

end

/-! ### The statements -/

/-- Settles O13: the number selects a variant or none, and the conditions are tested one after the other. -/
theorem refusedCartridges : Obligations.RefusedCartridges := by
  intro c
  refine ⟨fun hid => ?unsupported, fun hid hbanks => ?noBanks, fun hid hlarge => ?largeMmc1,
    fun hid hlarge hlength => ?wrongLength, fun hid hbanks hlarge hprg hchr => ?accepted⟩
  case unsupported => exact construct_of_refused (checkCartridge_of_unsupported (ofNumber_eq_none hid))
  case largeMmc1 => exact construct_of_refused (checkCartridge_of_largeMmc1 (hid ▸ rfl) hlarge)
  all_goals obtain ⟨m, hm, hnumber⟩ := exists_ofNumber hid
  case noBanks => exact construct_of_refused (checkCartridge_of_noBanks hm hbanks)
  all_goals rw [← hnumber, number_eq_one_iff] at hlarge
  case wrongLength => exact construct_of_refused (checkCartridge_of_wrongLength hm hlarge hlength)
  case accepted => exact construct_of_accepted hm hbanks hlarge hprg hchr

/-- Settles O33: both mappers do the same to static RAM, and what a write stores there is read back. -/
theorem staticRamAccess : Obligations.StaticRamAccess := by
  intro s index v rd wr hi hwf
  obtain ⟨hread, hwrite⟩ := exec_sramAccess hi
  exact ⟨hread.trans (congrArg _ (s.sramRead_eq index)), Memory.write s.sram index.toNat v,
    hwrite.trans (congrArg _ (s.sramWrite_eq index v)), fun _ => Memory.read_write hwf⟩

/-- Settles O34: behind the gate stands the reset of the loader, a shift, or the commit of the fifth bit. -/
theorem serialPortWrites : Obligations.SerialPortWrites := by
  intro s r bit target hmap step v
  have hshift := exec_serialShift hmap bit target
  have hreset := exec_serialReset hmap
  have hv : shiftIn r.sr bit = v := shiftIn_eq_ofNat r.sr bit
  refine ⟨fun hreject => ?rejected, fun haccept => ⟨?reset, fun hcnt => ?shift, fun hcnt => ?commit⟩,
    fun hgate => ?literal, fun hgate => ?inverted, fun hgate => ?all⟩
  case rejected =>
    rw [M1State.gated_of_rejected hreject] at hshift hreset
    exact ⟨hshift, hreset⟩
  case reset =>
    rw [M1State.gated_of_accepted haccept, M1State.serialReset_eq] at hreset
    exact hreset
  case shift =>
    rw [M1State.gated_of_accepted haccept, M1State.shift_of_not_fifth hcnt, hv] at hshift
    exact hshift
  case commit =>
    rw [M1State.gated_of_accepted haccept, M1State.shift_of_fifth hcnt, M1State.commit_eq, hv] at hshift
    exact hshift
  case literal =>
    rw [hgate]
    exact (congrArg not (beq_eq_decide _ _)).trans decide_not.symm
  case inverted =>
    rw [hgate]
    exact beq_eq_decide _ _
  case all =>
    rw [hgate]
    rfl

/-- Settles O36: the window shows the bank of its half, and its offset is reduced to the array. -/
theorem mapperOnePrgWindows : Obligations.MapperOnePrgWindows := by
  intro s r a hmap mode high prg bank
  have hread : prgResult s.cfg (m1PrgRaw s.cfg r a) =
      .offset .prg ((m1PrgBank s.cfg r a * 0x4000 + a.toNat % 0x4000) % prgBytes s) :=
    congrArg (prgResult s.cfg) (m1PrgRaw_eq s.cfg r a)
  exact (onM1_of_map hmap _).trans (congrArg _ (hread ▸ State.finishRead_offset s .prg _))

/-- Settles O37: CHR RAM is read at the address, CHR ROM through the window, reduced to the array. -/
theorem mapperOneChrWindows : Obligations.MapperOneChrWindows := by
  intro s r p hmap
  have hexec : exec (.m1PpuRead p) s = .next (s.finishRead (chrResult s.cfg (m1ChrRaw s.cfg r p))) :=
    onM1_of_map hmap _
  rw [hexec]
  by_cases hram : s.cfg.chrBanks = 0
  · rw [m1ChrRaw, if_pos hram, if_pos hram, chrResult_within, State.finishRead_offset]
  · rw [if_neg hram, m1ChrRaw_of_rom _ _ hram, chrResult, State.finishRead_offset, wrapChr,
      ← apply_ite (· % chrBytes s)]
    rfl

end Sys2Proof.Machine
end

section
/-! PROOFS. The statement of `46_mapper002.md`, and of `47_mapper003.md` with it: the select and the banked window of
mappers 2 and 3. -/

namespace Sys2Proof.Machine

open Stated

/-! ### The banked windows -/

/-- Address bit 14 tells $C000-$FFFF from $8000-$BFFF (rules R198, R213). -/
theorem getLsbD_14_iff (within : BitVec 15) : within.getLsbD 14 = true ↔ ¬ within.toNat < 0x4000 := by
  have hlt := within.isLt
  rw [bit_eq_decide, decide_eq_true_iff]
  omega

/-- Both windows of mapper 2 are one 16 KiB bank, and only the low one shows a register (rule R213). -/
theorem m2PrgRaw_eq (c : Cfg) (r : M2State) (within : BitVec 15) :
    m2PrgRaw c r within =
      (if within.toNat < 0x4000 then r.prgLo.toNat else c.prgBanks - 1) * 0x4000 + within.toNat % 0x4000 := by
  have hlow : lowBits 14 within = within.toNat % 0x4000 := lowBits_eq_mod within
  simp only [m2PrgRaw, getLsbD_14_iff, hlow, ite_not, windowOffset, ite_mul, ite_add]

/-! ### The statement -/

/-- Settles O28: each select puts its bank into the register, and each read goes through the window of the bank. -/
theorem mapperTwoAndThreeBanks : Obligations.MapperTwoAndThreeBanks := by
  intro s
  refine ⟨fun r bank a hmap => ⟨onM2_of_map hmap _, ?prgRead⟩, fun r bank p hmap => ⟨onM3_of_map hmap _, ?chrRead⟩⟩
  case prgRead =>
    have hexec : exec (.m2CpuRead a) s = .next (s.finishRead (prgResult s.cfg (m2PrgRaw s.cfg r a))) :=
      onM2_of_map hmap _
    rw [hexec, prgResult, State.finishRead_offset, m2PrgRaw_eq]
    rfl
  case chrRead =>
    have hexec : exec (.m3PpuRead p) s = .next (s.finishRead (chrResult s.cfg (m3ChrRaw r p))) :=
      onM3_of_map hmap _
    rw [hexec, chrResult, State.finishRead_offset]
    rfl

end Sys2Proof.Machine
end

section
/-! PROOFS. The statements of `48_mapper004.md`: the register writes of mapper 4, the latched offsets and the windows
that show them, and the scanline counter, over one call and over any number of them. -/

namespace Sys2Proof.Machine

open Stated

section

variable {s : State} {r : M4State}

/-! ### Register writes -/

theorem State.setMap_of_map {map : MapState} (h : s.map = map) : s.setMap map = s := h ▸ s.setMap_self

/-- A register write of mapper 4 answers NotClaimed and changes nothing but the registers (rule R231). -/
theorem m4Register_eq_registersAre (hmap : s.map = .m4 r) (f : M4State → M4State) :
    m4Register s f = .next (registersAre s (.m4 (f r))) := m4Register_of_map hmap f

/-! ### The latched offsets -/

/-- The pair of 1 KiB banks begins at an even one (rule R235). -/
theorem and_clear_low_toNat_byte (b : Byte) : (b &&& 0xFE#8).toNat = b.toNat / 2 * 2 := by
  revert b
  decide

/-- A PRG bank number has six bits (rule R235). -/
theorem and_low_six_toNat (b : Byte) : (b &&& 0x3F#8).toNat = b.toNat % 64 :=
  Nat.and_two_pow_sub_one_eq_mod b.toNat 6

theorem chrLayout_toList (inverted : Bool) (bank : Vector Byte 8) :
    let pair := fun b : Byte => b.toNat / 2 * 2 * 0x400
    let one := fun b : Byte => b.toNat * 0x400
    (chrLayout inverted bank).toList =
      if inverted then
        [one bank[2], one bank[3], one bank[4], one bank[5],
          pair bank[0], pair bank[0] + 0x400, pair bank[1], pair bank[1] + 0x400]
      else
        [pair bank[0], pair bank[0] + 0x400, pair bank[1], pair bank[1] + 0x400,
          one bank[2], one bank[3], one bank[4], one bank[5]] := by
  simp only [chrLayout, chrPair, chrSingle, and_clear_low_toNat_byte]
  cases inverted <;> rfl

theorem prgLayout_toList (prgBanks : Nat) (mode : Bool) (bank : Vector Byte 8) :
    let prg := fun b : Byte => b.toNat % 64 * 0x2000
    (prgLayout prgBanks mode bank).toList =
      if mode then
        [(2 * prgBanks - 2) * 0x2000, prg bank[7], prg bank[6], (2 * prgBanks - 1) * 0x2000]
      else
        [prg bank[6], prg bank[7], (2 * prgBanks - 2) * 0x2000, (2 * prgBanks - 1) * 0x2000] := by
  simp only [prgLayout, and_low_six_toNat]
  cases mode <;> rfl

theorem M4State.loadBank_bank (prgBanks : Nat) (r : M4State) (v : Byte) {j : Nat} (h : j < 8) :
    (r.loadBank prgBanks v).bank[j] = if j = r.target.toNat then v else r.bank[j] := by
  simp only [M4State.loadBank, M4State.recompute, Vector.getElem_set, eq_comm]

/-! ### The windows -/

theorem toList_getD_of_lt {α : Type} {n i : Nat} (v : Vector α n) (d : α) (h : i < n) :
    v.toList.getD i d = v[i] := by
  rw [List.getD_eq_getElem _ _ (by simpa using h), Vector.getElem_toList]

theorem m4PrgRaw_eq (r : M4State) (within : BitVec 15) :
    m4PrgRaw r within = r.prgOff.toList.getD (within.toNat / 0x2000) 0 + within.toNat % 0x2000 := by
  have hwindow : (within.extractLsb' 13 2).toNat = within.toNat / 0x2000 := topField_eq_div within 13 2 rfl
  have hlow : lowBits 13 within = within.toNat % 0x2000 := lowBits_eq_mod within
  rw [m4PrgRaw, hlow, ← hwindow, toList_getD_of_lt]

theorem m4ChrRaw_eq (r : M4State) (within : BitVec 13) :
    m4ChrRaw r within = r.chrOff.toList.getD (within.toNat / 0x400) 0 + within.toNat % 0x400 := by
  have hwindow : (within.extractLsb' 10 3).toNat = within.toNat / 0x400 := topField_eq_div within 10 3 rfl
  have hlow : lowBits 10 within = within.toNat % 0x400 := lowBits_eq_mod within
  rw [m4ChrRaw, hlow, ← hwindow, toList_getD_of_lt]

/-! ### The scanline counter -/

theorem scanlineCounter_toNat (reload counter : Byte) :
    (scanlineCounter reload counter).toNat = if counter.toNat = 0 then reload.toNat else counter.toNat - 1 := by
  unfold scanlineCounter
  by_cases hzero : counter = 0
  · simp [hzero]
  · have hnat : counter.toNat ≠ 0 := fun h => hzero (BitVec.eq_of_toNat_eq h)
    rw [if_neg hzero, if_neg hnat]
    bv_omega

/-- One call changes the counter and the request, which the new counter decides (rule R245). -/
theorem M4State.scanline_eq (r : M4State) : r.scanline = { r with
    irqCounter := scanlineCounter r.irqReload r.irqCounter
    irqActive := r.irqActive ||
      (decide ((scanlineCounter r.irqReload r.irqCounter).toNat = 0) && r.irqEnable) } := by
  have htest (counter : Byte) : (counter == 0) = decide (counter.toNat = 0) := by
    rw [beq_eq_decide, decide_eq_decide]
    exact BitVec.toNat_inj.symm
  rw [M4State.scanline, htest]

theorem exec_m4Scanline (hmap : s.map = .m4 r) :
    exec .m4Scanline s = .next (answered { s with map := .m4 r.scanline } .none) := onM4_of_map hmap _

theorem execTimes_m4Scanline (hmap : s.map = .m4 r) (n : Nat) :
    execTimes (n + 1) .m4Scanline s =
      .next (answered { s with map := .m4 (M4State.scanline^[n + 1] r) } .none) := by
  induction n with
  | zero => exact (execTimes_succ_of_next rfl).trans (exec_m4Scanline hmap)
  | succ n ih =>
    rw [execTimes_succ_of_next ih, exec_m4Scanline rfl, Function.iterate_succ_apply' M4State.scanline (n + 1)]
    rfl

/-- Where mapper 4 stands `n` calls of `Scanline` after the one that found the counter at 0 and reloaded it. -/
def M4State.ScannedFor (r : M4State) (n : Nat) (q : M4State) : Prop :=
  ∃ counter : Byte, counter.toNat = r.irqReload.toNat - n % (r.irqReload.toNat + 1) ∧
    q = { r with irqCounter := counter, irqActive := decide (r.irqReload.toNat + 1 ≤ n + 1) && r.irqEnable }

/-- The first call reloads the counter, and raises the request at once if the reload value is 0. -/
theorem M4State.scannedFor_scanline (hcounter : r.irqCounter.toNat = 0) (hactive : r.irqActive = false) :
    r.ScannedFor 0 r.scanline := by
  have hreload : (scanlineCounter r.irqReload r.irqCounter).toNat = r.irqReload.toNat := by
    rw [scanlineCounter_toNat, if_pos hcounter]
  refine ⟨scanlineCounter r.irqReload r.irqCounter, by simpa using hreload, ?_⟩
  simp [M4State.scanline_eq, hreload, hactive]

/-- The counter counts down within a period, and at its end the next period begins. -/
theorem scanlineCounter_of_period {reload counter : Byte} {n : Nat}
    (h : counter.toNat = reload.toNat - n % (reload.toNat + 1)) :
    (scanlineCounter reload counter).toNat = reload.toNat - (n + 1) % (reload.toNat + 1) := by
  have hlt : n % (reload.toNat + 1) < reload.toNat + 1 := Nat.mod_lt n reload.toNat.succ_pos
  rw [scanlineCounter_toNat, h]
  split
  · rw [(succ_div_mod_of_eq (by omega)).2, Nat.sub_zero]
  · rw [(succ_div_mod_of_lt (by omega)).2, Nat.sub_sub]

/-- The first period ends with the call that makes the counter 0 for the first time. -/
theorem firstPeriod_over_iff {m n : Nat} : (m ≤ n ∨ m - (n + 1) % (m + 1) = 0) ↔ m ≤ n + 1 := by
  refine ⟨fun h => ?_, fun h => ?_⟩
  · have hle : (n + 1) % (m + 1) ≤ n + 1 := Nat.mod_le _ _
    omega
  · obtain hlt | rfl := Nat.lt_or_eq_of_le h
    · exact .inl (Nat.le_of_lt_succ hlt)
    · rw [Nat.mod_eq_of_lt (Nat.lt_succ_self _), Nat.sub_self]
      exact .inr rfl

/-- One more call counts the counter on, and raises the request at the end of the first period. -/
theorem M4State.ScannedFor.scanline {q : M4State} {n : Nat} (h : r.ScannedFor n q) :
    r.ScannedFor (n + 1) q.scanline := by
  obtain ⟨counter, hcounter, rfl⟩ := h
  have hnext := scanlineCounter_of_period hcounter
  refine ⟨scanlineCounter r.irqReload counter, hnext, ?_⟩
  simp only [M4State.scanline_eq, hnext, ← Bool.and_or_distrib_right, ← Bool.decide_or,
    Nat.add_le_add_iff_right, firstPeriod_over_iff]

theorem M4State.scannedFor_iterate_scanline (hcounter : r.irqCounter.toNat = 0) (hactive : r.irqActive = false)
    (n : Nat) : r.ScannedFor n (M4State.scanline^[n + 1] r) := by
  induction n with
  | zero => exact scannedFor_scanline hcounter hactive
  | succ n ih =>
    rw [Function.iterate_succ_apply']
    exact ih.scanline

end

/-! ### The statements -/

/-- Settles O39: a load into `R[target]` and then the layouts of rule R235, read as lists. -/
theorem bankDataRecomputesAllOffsets : Obligations.BankDataRecomputesAllOffsets := by
  intro s r v hmap
  exact ⟨r.loadBank s.cfg.prgBanks v, m4Register_eq_registersAre hmap _, rfl,
    fun _ h => M4State.loadBank_bank _ r v h, chrLayout_toList _ _, prgLayout_toList _ _ _⟩

/-- Settles O40: the window's field of the address selects the latched offset. -/
theorem mapperFourWindows : Obligations.MapperFourWindows := by
  intro s r a p hmap
  constructor
  · refine (onM4_of_map hmap _).trans (congrArg _ ?_)
    rw [prgResult, State.finishRead_offset, m4PrgRaw_eq]
    rfl
  · refine (onM4_of_map hmap _).trans (congrArg _ ?_)
    rw [chrResult, State.finishRead_offset, m4ChrRaw_eq]
    rfl

/-- Settles O41: the counter of rule R245 as a number, and the request it raises. -/
theorem scanlineCounterAndRequest : Obligations.ScanlineCounterAndRequest := by
  intro s r hmap
  refine ⟨⟨scanlineCounter r.irqReload r.irqCounter, scanlineCounter_toNat _ _, ?_⟩, onM4_of_map hmap _,
    onM4_of_map hmap _⟩
  rw [exec_m4Scanline hmap, M4State.scanline_eq]

/-- Settles O42: after the call that reloads the counter every further call counts it down through the period. -/
theorem scanlinePeriodIsReloadPlusOne : Obligations.ScanlinePeriodIsReloadPlusOne := by
  intro s r k hmap hcounter hactive hk
  obtain ⟨n, rfl⟩ := Nat.exists_eq_add_of_le' hk
  obtain ⟨counter, hcount, hregisters⟩ := M4State.scannedFor_iterate_scanline hcounter hactive n
  refine ⟨_, counter, execTimes_m4Scanline hmap n, hcount, ?_⟩
  rw [hregisters]

/-- Settles O38: each is a register write of mapper 4, and RAM protect writes the registers back as they are. -/
theorem mapperFourRegisterWrites : Obligations.MapperFourRegisterWrites := by
  intro s r inv mode horizontal target v hmap
  have hwrite := m4Register_eq_registersAre hmap
  have hprotect : registersAre s (.m4 r) = answered s (.write .notClaimed) :=
    congrArg (answered · _) (State.setMap_of_map hmap)
  exact ⟨hwrite _, hwrite _, (hwrite _).trans (congrArg _ hprotect), hwrite _, hwrite _, hwrite _, hwrite _⟩

end Sys2Proof.Machine
end

section
/-! PROOFS. The statements of `49_mapper009.md`: the register writes of mapper 9, its PRG windows, and its PPU reads,
which are served before they move a latch. -/

namespace Sys2Proof.Machine

open Stated

/-! ### Register writes -/

section

variable {s : State} {r : M9State}

/-- A register write of mapper 9 answers NotClaimed and changes nothing but the registers (rule R261). -/
theorem m9Register_eq_registersAre (hmap : s.map = .m9 r) (f : M9State → M9State) :
    m9Register s f = .next (registersAre s (.m9 (f r))) := m9Register_of_map hmap f

end

/-! ### The PRG windows -/

section

variable {c : Cfg}

/-- PRG is twice as many 8 KiB banks, so reducing an offset to the array reduces its 8 KiB bank (rules R163, R262). -/
theorem wrapPrg_bank8 (c : Cfg) (bank : Nat) {low : Nat} (hlow : low < 0x2000) :
    wrapPrg c (bank * 0x2000 + low) = bank % (2 * c.prgBanks) * 0x2000 + low := by
  have hsize : c.prgSize = 0x2000 * (2 * c.prgBanks) := by unfold Params.prgSize; omega
  have hdiv : (bank * 0x2000 + low) / 0x2000 = bank := by omega
  have hmod : (bank * 0x2000 + low) % 0x2000 = low := by omega
  rw [wrapPrg, hsize, Nat.mod_mul, hdiv, hmod]
  omega

/-- The 8 KiB bank that the CPU address shows on mapper 9 (rule R262). -/
def m9PrgBank8 (c : Cfg) (r : M9State) (window : Nat) : Nat :=
  if window = 0 then r.prgSel.toNat % (2 * c.prgBanks)
  else if window = 1 then (if c.prgBanks = 1 then 1 else 2 * c.prgBanks - 3)
  else if window = 2 then 2 * c.prgBanks - 2
  else 2 * c.prgBanks - 1

/-- Counted back from twice the number of banks, a bank below one of them is its own remainder. -/
theorem mod_of_lastBanks {n k : Nat} (hpos : 1 ≤ k) (hle : k ≤ 2 * n) :
    (4 * n - k) % (2 * n) = 2 * n - k := by
  rw [show 4 * n - k = 2 * n - k + 2 * n by omega, Nat.add_mod_right]
  exact Nat.mod_eq_of_lt (by omega)

theorem m9PrgBank_mod (hbanks : 1 ≤ c.prgBanks) (r : M9State) (window : Nat) :
    m9PrgBank c r window % (2 * c.prgBanks) = m9PrgBank8 c r window := by
  match window with
  | 0 => rfl
  | 1 =>
    change (4 * c.prgBanks - 3) % (2 * c.prgBanks) % _ = if c.prgBanks = 1 then 1 else 2 * c.prgBanks - 3
    rw [Nat.mod_mod]
    split
    next hone => rw [hone]
    next hmany => exact mod_of_lastBanks (by omega) (by omega)
  | 2 => exact (Nat.mod_mod _ _).trans (mod_of_lastBanks (by omega) (by omega))
  | n + 3 =>
    have hlast : m9PrgBank8 c r (n + 3) = 2 * c.prgBanks - 1 := by
      unfold m9PrgBank8
      rw [if_neg (by omega), if_neg (by omega), if_neg (by omega)]
    rw [hlast]
    exact (Nat.mod_mod _ _).trans (mod_of_lastBanks (by omega) (by omega))

/-- The window of the address shows its bank, whatever the address is (rule R262). -/
theorem wrapPrg_m9PrgRaw (hbanks : 1 ≤ c.prgBanks) (r : M9State) (within : BitVec 15) :
    wrapPrg c (m9PrgRaw c r within) =
      m9PrgBank8 c r (within.toNat / 0x2000) * 0x2000 + within.toNat % 0x2000 := by
  have hwindow : (within.extractLsb' 13 2).toNat = within.toNat / 0x2000 := topField_eq_div within 13 2 rfl
  have hlow : lowBits 13 within = within.toNat % 0x2000 := lowBits_eq_mod within
  rw [m9PrgRaw, windowOffset, hwindow, hlow, wrapPrg_bank8 c _ (Nat.mod_lt _ (by decide)), m9PrgBank_mod hbanks]

end

/-! ### The PPU reads -/

section

variable (r : M9State) (within : BitVec 13)

theorem m9ChrBank_eq (upper : Bool) :
    m9ChrBank r upper = if upper then (if r.latch1 = .fd then r.chrFd1.toNat else r.chrFe1.toNat)
      else (if r.latch0 = .fd then r.chrFd0.toNat else r.chrFe0.toNat) := by
  unfold m9ChrBank
  split
  · cases r.latch1 <;> rfl
  · cases r.latch0 <;> rfl

/-- The window of the address shows the bank that its latch selects (rule R268, step 1). -/
theorem m9ChrRaw_eq :
    m9ChrRaw r within =
      (if within.toNat < 0x1000 then (if r.latch0 = .fd then r.chrFd0.toNat else r.chrFe0.toNat)
        else (if r.latch1 = .fd then r.chrFd1.toNat else r.chrFe1.toNat)) * 0x1000 + within.toNat % 0x1000 := by
  have hlow : lowBits 12 within = within.toNat % 0x1000 := lowBits_eq_mod within
  have hupper : within.getLsbD 12 = true ↔ ¬ within.toNat < 0x1000 := by
    have hlt := within.isLt
    rw [bit_eq_decide, decide_eq_true_iff]
    omega
  simp only [m9ChrRaw, windowOffset, hlow, m9ChrBank_eq, hupper, ite_not]

/-- `addr[12:4]` tells the four latch ranges of rule R268. -/
theorem M9State.moveLatch_by_range :
    r.moveLatch within =
      if 0x0FD0 ≤ within.toNat ∧ within.toNat ≤ 0x0FDF then { r with latch0 := .fd }
      else if 0x0FE0 ≤ within.toNat ∧ within.toNat ≤ 0x0FEF then { r with latch0 := .fe }
      else if 0x1FD0 ≤ within.toNat ∧ within.toNat ≤ 0x1FDF then { r with latch1 := .fd }
      else if 0x1FE0 ≤ within.toNat ∧ within.toNat ≤ 0x1FEF then { r with latch1 := .fe }
      else r := by
  have hrange (n : Nat) : within.toNat / 16 = n ↔ n * 16 ≤ within.toNat ∧ within.toNat ≤ n * 16 + 15 := by omega
  simp only [M9State.moveLatch, latchBlock_eq_iff, BitVec.toNat_ofNat, hrange, Nat.reducePow, Nat.reduceMod,
    Nat.reduceMul, Nat.reduceAdd]

/-- The ranges of one latch lie in one window, so each latch is moved by its own two ranges (rule R268, step 2). -/
theorem M9State.moveLatch_eq :
    r.moveLatch within = { r with
      latch0 := if 0x0FD0 ≤ within.toNat ∧ within.toNat ≤ 0x0FDF then .fd
        else if 0x0FE0 ≤ within.toNat ∧ within.toNat ≤ 0x0FEF then .fe else r.latch0
      latch1 := if 0x1FD0 ≤ within.toNat ∧ within.toNat ≤ 0x1FDF then .fd
        else if 0x1FE0 ≤ within.toNat ∧ within.toNat ≤ 0x1FEF then .fe else r.latch1 } := by
  have hlatch0 : (r.moveLatch within).latch0 = if 0x0FD0 ≤ within.toNat ∧ within.toNat ≤ 0x0FDF then .fd
      else if 0x0FE0 ≤ within.toNat ∧ within.toNat ≤ 0x0FEF then .fe else r.latch0 := by
    simp only [M9State.moveLatch_by_range, apply_ite M9State.latch0, ite_self]
  have hlatch1 : (r.moveLatch within).latch1 = if 0x1FD0 ≤ within.toNat ∧ within.toNat ≤ 0x1FDF then .fd
      else if 0x1FE0 ≤ within.toNat ∧ within.toNat ≤ 0x1FEF then .fe else r.latch1 := by
    obtain hlower | hupper := Nat.lt_or_ge within.toNat 0x1000
    · rw [M9State.moveLatch_latch1 hlower, if_neg (by omega), if_neg (by omega)]
    · rw [M9State.moveLatch_by_range, if_neg (by omega), if_neg (by omega)]
      simp only [apply_ite M9State.latch1]
  rw [M9State.moveLatch_frame, hlatch0, hlatch1]

end

/-- The four reads in a latch range are reads at their address, as every other PPU read is (rule R268). -/
theorem exec_m9PpuRead_at {i : Instr} {low : BitVec 4} {p : BitVec 13}
    (hi : (i = .m9PpuReadFd0 low ∧ p.toNat = 0x0FD0 + low.toNat) ∨
      (i = .m9PpuReadFe0 low ∧ p.toNat = 0x0FE0 + low.toNat) ∨
      (i = .m9PpuReadFd1 low ∧ p.toNat = 0x1FD0 + low.toNat) ∨
      (i = .m9PpuReadFe1 low ∧ p.toNat = 0x1FE0 + low.toNat) ∨ i = .m9PpuRead p) (s : State) :
    exec i s = m9PpuRead s p := by
  have happend {block : BitVec 9} (h : p.toNat = block.toNat * 16 + low.toNat) : block ++ low = p := by
    refine BitVec.eq_of_toNat_eq ?_
    rw [h, BitVec.toNat_append, Nat.shiftLeft_eq, Nat.mul_comm, ← Nat.two_pow_add_eq_or_of_lt low.isLt, Nat.mul_comm]
  obtain ⟨rfl, hp⟩ | ⟨rfl, hp⟩ | ⟨rfl, hp⟩ | ⟨rfl, hp⟩ | rfl := hi
  case inr.inr.inr.inr => rfl
  all_goals exact congrArg (m9PpuRead s) (happend hp)

/-! ### The statements -/

/-- Settles O44: the last three banks are constants of the cartridge, and reduced to the array they stay. -/
theorem mapperNinePrgWindows : Obligations.MapperNinePrgWindows := by
  intro s r a hmap hbanks window bank
  refine (onM9_of_map hmap _).trans (congrArg _ ?_)
  rw [prgResult, State.finishRead_offset, wrapPrg_m9PrgRaw hbanks]
  rfl

/-- Settles O45: all five are one read at their address, served from the old latches before one of them moves. -/
theorem ppuReadThenMovesTheLatch : Obligations.PpuReadThenMovesTheLatch := by
  intro s r i low p hmap hi a bank
  rw [exec_m9PpuRead_at hi]
  refine (onM9_of_map hmap _).trans (congrArg _ ?_)
  rw [chrResult, State.finishRead_offset, m9ChrRaw_eq, M9State.moveLatch_eq]
  rfl

/-- Settles O43: each is a register write of mapper 9, and the one without a register writes them back as they are. -/
theorem mapperNineRegisterWrites : Obligations.MapperNineRegisterWrites := by
  intro s r nibble bank horizontal hmap
  have hwrite := m9Register_eq_registersAre hmap
  have hnop : registersAre s (.m9 r) = answered s (.write .notClaimed) :=
    congrArg (answered · _) (State.setMap_of_map hmap)
  exact ⟨(hwrite _).trans (congrArg _ hnop), hwrite _, hwrite _, hwrite _, hwrite _, hwrite _, hwrite _⟩

end Sys2Proof.Machine
end

section
/-! PROOFS. The statement of `60_exceptions.md`: which instructions raise the request of mapper 4, and which drop it. -/

namespace Sys2Proof.Machine

open Stated

/-! ### What an instruction does to the request -/

/-- What becomes of `irq_active` in one instruction: `Scanline` can raise it, three instructions drop it, and every
other leaves it (rules R285, R288). -/
inductive RequestChange (i : Instr) (r r' : M4State) : Prop
  | kept (h : r'.irqActive = r.irqActive)
  | scanline (hi : i = .m4Scanline) (h : r.irqActive = true → r'.irqActive = true)
  | dropped (hi : i = .m4IrqClear ∨ i = .m4IrqDisable ∨ i = .m4Reset) (h : r'.irqActive = false)

section

variable {s t : State} {i : Instr} {r r' : M4State}

/-- An operation of mapper 4's table changes the request as it changes the registers. -/
theorem onM4_requestChange {f : M4State → State} (h : onM4 s f = .next t) (hmap : s.map = .m4 r)
    (hmap' : t.map = .m4 r') (hf : ∀ q, (f r).map = .m4 q → RequestChange i r q) : RequestChange i r r' := by
  obtain rfl : f r = t := Host.Outcome.next.inj ((onM4_of_map hmap f).symm.trans h)
  exact hf r' hmap'

theorem exec_requestChange (h : exec i s = .next t) (hmap : s.map = .m4 r) (hmap' : t.map = .m4 r')
    (hi : i.mapper = some .m4) : RequestChange i r r' := by
  cases i with
  | m4Scanline =>
    exact onM4_requestChange h hmap hmap' fun _ hq => by
      cases hq
      exact .scanline rfl fun hactive => by simp [M4State.scanline, hactive]
  | m4IrqClear => exact onM4_requestChange h hmap hmap' fun _ hq => by cases hq; exact .dropped (.inl rfl) rfl
  | m4IrqDisable =>
    exact onM4_requestChange h hmap hmap' fun _ hq => by cases hq; exact .dropped (.inr (.inl rfl)) rfl
  | m4Reset => exact onM4_requestChange h hmap hmap' fun _ hq => by cases hq; exact .dropped (.inr (.inr rfl)) rfl
  | m4BankSelect | m4BankData | m4Mirror | m4RamProtect | m4IrqLatch | m4IrqReload | m4IrqEnable =>
    exact onM4_requestChange h hmap hmap' fun _ hq => by cases hq; exact .kept rfl
  | m4SramRead | m4SramWrite | m4CpuRead | m4PpuRead | m4PpuWrite | m4IrqState | m4MirrorQ =>
    exact onM4_requestChange h hmap hmap' fun _ hq => by cases hmap.symm.trans hq; exact .kept rfl
  | _ => cases hi

/-- Where a step changes the request, mapper 4's table has the word's instruction, and it is one that does so. -/
theorem step_requestChange (hmap : s.map = .m4 r) (hstep : step s = .next t) (hmap' : t.map = .m4 r')
    (hne : r'.irqActive ≠ r.irqActive) :
    ∃ tr rest i, s.pending = tr :: rest ∧ decode .m4 tr.word = .ok i ∧ RequestChange i r r' := by
  have hmapNe : t.map ≠ s.map := by
    rw [hmap, hmap']
    exact fun h => hne (congrArg M4State.irqActive (MapState.m4.inj h))
  obtain hblock | ⟨tr, rest, i, hp, hdecode, heffect⟩ := step_blockEffect hstep
  · exact absurd (congrArg Block.map hblock) hmapNe
  have hi : i.mapper = some .m4 := by
    obtain hkept | hchange := heffect.map_cases
    · exact absurd hkept hmapNe
    · rw [hchange.mapper_eq, State.begin_map, hmap]
      rfl
  have hexec : exec i (s.begin tr rest) = .next t :=
    (perform_of_decode (s := s.begin tr rest) hdecode).symm.trans ((step_eq_perform hp).symm.trans hstep)
  exact ⟨tr, rest, i, hp, decode_mapper_eq hdecode hi ▸ hdecode, exec_requestChange hexec hmap hmap' hi⟩

end

/-! ### The statement -/

/-- Settles O23: of the changes of the request only `Scanline`'s can be a rise, and only the drops can be a fall. -/
theorem requestRisesOnlyInScanline : Obligations.RequestRisesOnlyInScanline := by
  intro s u r r' hmap hstep hmap'
  constructor
  · intro hdown hup
    obtain ⟨tr, rest, i, hp, hdecode, hchange⟩ := step_requestChange hmap hstep hmap' (by simp [hdown, hup])
    cases hchange with
    | kept h => cases hup.symm.trans (h.trans hdown)
    | scanline hi => exact ⟨tr, rest, hp, hi ▸ hdecode⟩
    | dropped _ h => cases hup.symm.trans h
  · intro hup hdown
    obtain ⟨tr, rest, i, hp, hdecode, hchange⟩ := step_requestChange hmap hstep hmap' (by simp [hdown, hup])
    cases hchange with
    | kept h => cases hup.symm.trans (h.symm.trans hdown)
    | scanline _ h => cases (h hup).symm.trans hdown
    | dropped hi =>
      refine ⟨tr, rest, hp, ?_⟩
      obtain rfl | rfl | rfl := hi
      · exact .inl hdecode
      · exact .inr (.inl hdecode)
      · exact .inr (.inr hdecode)

end Sys2Proof.Machine
end

section
/-! PROOFS. The statements of `70_reset_and_hazards.md`: what `Reset` and `ApuReset` leave, and the state that
construction makes of a cartridge. -/

namespace Sys2Proof.Machine

open Stated

/-! ### `Reset` and `ApuReset` -/

section

variable {s : State}

/-- On a block of a mapper, the `Reset` of its table leaves the reset value of its registers (rule R300). -/
theorem exec_reset_of_mapId {m : MapperId} (hm : s.map.id = m) :
    exec (resetOf m) s = .next (answered { s with map := MapState.reset m s.cfg } .none) := by
  subst hm
  exact exec_resetOf rfl

/-- The layouts of rule R235 for the registers all 0 (rule R248). -/
theorem M4State.reset_eq (prgBanks : Nat) : M4State.reset prgBanks =
    { target := 0, prgMode := false, chrInv := false
      bank := #v[0, 0, 0, 0, 0, 0, 0, 0]
      chrOff := #v[0, 0x400, 0, 0x400, 0, 0, 0, 0]
      prgOff := #v[0, 0, (2 * prgBanks - 2) * 0x2000, (2 * prgBanks - 1) * 0x2000]
      mirror := .horizontal, irqReload := 0, irqCounter := 0
      irqEnable := false, irqActive := false } := rfl

theorem exec_apuReset (s : State) :
    exec .apuReset s = .next (answered { s with apu := ApuState.reset, inbox := SweepInbox.empty } .none) := rfl

end

/-! ### Construction -/

theorem number_of_ofNumber {n : Nat} {m : MapperId} (h : MapperId.ofNumber n = some m) : m.number = n := by
  unfold MapperId.ofNumber at h
  split at h <;> cases h <;> rfl

/-- The mapper of an accepted cartridge is the one its number selects (rules R6, R281). -/
theorem checkCartridge_number {c : Cartridge} {m : MapperId} (h : checkCartridge c = .ok m) :
    m.number = c.mapperID := by
  unfold checkCartridge at h
  split at h
  · cases h
  next hm =>
    split_ifs at h
    cases h
    exact number_of_ofNumber hm

/-- The mappers with static RAM, by their numbers (rules R20, R33). -/
theorem ownsSram_iff {m : MapperId} : m.ownsSram = true ↔ m.number = 1 ∨ m.number = 4 := by
  cases m <;> decide

section

variable (c : Cfg) (e : Environment)

/-- A block just reset reads in each array what its configuration holds, whether the array is state or not (rule
R302). -/
theorem Block.reset_prg : ((Block.reset c).under e c).prg = c.prg := by
  change (prgAtReset c).getD c.prg = c.prg
  unfold prgAtReset
  split <;> rfl

theorem Block.reset_chr (h : c.chrBanks = 0 → c.chr = []) : ((Block.reset c).under e c).chr = c.chr := by
  change (chrAtReset c).getD c.chr = c.chr
  unfold chrAtReset
  split
  next hram => exact (h hram).symm
  · rfl

theorem Block.reset_sram : ((Block.reset c).under e c).sram = c.sramInit := by
  change (sramAtReset c).getD c.sramInit = c.sramInit
  unfold sramAtReset
  split <;> rfl

end

/-- A loaded array reads as its bytes. -/
theorem Memory.read_ofBytes_of_getElem? {bytes : List Byte} {a : Nat} {b : Byte} (h : bytes[a]? = some b) :
    Memory.read (Memory.ofBytes bytes) a = b := by
  rw [Memory.read_ofBytes, List.getD_eq_getElem?_getD, h, Option.getD_some]

/-- `Reset` and `ApuReset` change nothing of the mapper and of the APU of a block just reset (rule R302). -/
theorem Block.reset_fixed (c : Cfg) (e : Environment) :
    let s := (Block.reset c).under e c
    ∃ t u, exec (resetOf s.mapperId) s = .next t ∧ exec .apuReset t = .next u ∧ u.map = s.map ∧ u.apu = s.apu :=
  ⟨_, _, exec_reset_of_mapId (MapState.reset_id _ _), exec_apuReset _, rfl, rfl⟩

/-! ### The statements -/

/-- Settles O14: the block is the one reset under the configuration made of the cartridge. -/
theorem constructedState : Obligations.ConstructedState := by
  intro c s hconstruct
  obtain ⟨m, hcheck, rfl⟩ := construct_ok hconstruct
  have hnumber : m.number = c.mapperID := checkCartridge_number hcheck
  obtain ⟨hvariant, hsram, hchr, hprg⟩ := shapeLegal_iff.1 (shapeLegal_reset (c.cfg m))
  refine ⟨rfl, hnumber, hvariant, ?sramState, ?chrState, ?prgState, fun a b hbyte => ?prg, fun hram a _ => ?chrRam,
    fun hrom a b hbyte => ?chrRom, fun a b hlt hbyte => ?sram, Block.reset_fixed _ _⟩
  case sramState =>
    rw [← hnumber, ← ownsSram_iff]
    exact Bool.eq_iff_iff.1 hsram
  case chrState => exact (Bool.eq_iff_iff.1 hchr).trans beq_iff_eq
  case prgState => exact Bool.eq_iff_iff.1 hprg
  case prg =>
    rw [Block.reset_prg]
    exact and_self_iff.2 (Memory.read_ofBytes_of_getElem? hbyte)
  case chrRam =>
    rw [Block.reset_chr _ _ fun h => if_pos h]
    exact and_self_iff.2 (congrArg (Memory.read · a) (if_pos hram))
  case chrRom =>
    rw [Block.reset_chr _ _ fun h => if_pos h]
    exact and_self_iff.2 ((congrArg (Memory.read · a) (if_neg hrom)).trans (Memory.read_ofBytes_of_getElem? hbyte))
  case sram =>
    rw [Block.reset_sram]
    exact and_self_iff.2 (Memory.read_ofBytes_of_getElem? ((List.getElem?_take_of_lt hlt).trans hbyte))

/-- Settles O29: each mapper's `Reset` leaves its reset values, those of mapper 4 with the offsets recomputed. -/
theorem resetRestoresPowerOnBanks : Obligations.ResetRestoresPowerOnBanks := by
  intro s
  refine ⟨fun hm => ?m0, exec_reset_of_mapId, exec_reset_of_mapId, exec_reset_of_mapId, fun hm => ?m4,
    exec_reset_of_mapId⟩
  case m0 => exact exec_eq_next rfl hm fun _ h => onM0_elim h rfl
  case m4 =>
    rw [← M4State.reset_eq]
    exact exec_reset_of_mapId hm

/-- Settles O50: the reset value of every APU field is 0 or false. -/
theorem apuResetClearsTheApu : Obligations.ApuResetClearsTheApu := fun s => exec_apuReset s

end Sys2Proof.Machine
end

section
/-! PROOFS. The statement about the representation of an array: the canonical form lists exactly the offsets that do not
read as 0, in one order. -/

namespace Sys2Proof.Machine

section

variable {m m' : Memory} {low a : Nat} {b : Byte}

theorem Memory.read_cons_self (a : Nat) (b : Byte) (rest : Memory) : Memory.read ((a, b) :: rest) a = b := if_pos rfl

/-- An array that begins with an entry reads the entry's offset as another byte than one that lists nothing so low. -/
theorem Memory.read_ne_of_first (hb : b ≠ 0) (rest : Memory) (hm' : Memory.sortedFrom low m' = true) (hlt : a < low) :
    Memory.read ((a, b) :: rest) a ≠ Memory.read m' a := by
  rwa [Memory.read_cons_self, Memory.read_below hm' hlt]

/-- Behind one and the same entry, what reads alike reads alike without it. -/
theorem Memory.read_eq_of_cons (hm : Memory.sortedFrom (a + 1) m = true) (hm' : Memory.sortedFrom (a + 1) m' = true)
    (h : ∀ x, Memory.read ((a, b) :: m) x = Memory.read ((a, b) :: m') x) (x : Nat) :
    Memory.read m x = Memory.read m' x := by
  by_cases hx : a = x
  · subst hx
    rw [Memory.read_below hm (Nat.lt_succ_self a), Memory.read_below hm' (Nat.lt_succ_self a)]
  · simpa only [Memory.read, if_neg hx] using h x

/-- The first entries are at the lowest offset that does not read as 0, and hold its byte. -/
theorem Memory.eq_of_read_eq (hm : Memory.sortedFrom low m = true) (hm' : Memory.sortedFrom low m' = true)
    (h : ∀ x, Memory.read m x = Memory.read m' x) : m = m' := by
  induction m generalizing low m' with
  | nil =>
    cases m' with
    | nil => rfl
    | cons cell rest' =>
      obtain ⟨-, hb', -⟩ := Memory.sortedFrom_cons.1 hm'
      exact absurd (h cell.1).symm (Memory.read_ne_of_first hb' rest' (m' := []) rfl (Nat.lt_succ_self cell.1))
  | cons cell rest ih =>
    obtain ⟨a, b⟩ := cell
    obtain ⟨-, hb, hrest⟩ := Memory.sortedFrom_cons.1 hm
    cases m' with
    | nil => exact absurd (h a) (Memory.read_ne_of_first hb rest (m' := []) rfl (Nat.lt_succ_self a))
    | cons cell' rest' =>
      obtain ⟨a', b'⟩ := cell'
      obtain ⟨-, hb', hrest'⟩ := Memory.sortedFrom_cons.1 hm'
      obtain hlt | rfl | hgt := Nat.lt_trichotomy a a'
      · have hfrom : Memory.sortedFrom a' ((a', b') :: rest') = true := Memory.sortedFrom_cons.2 ⟨le_rfl, hb', hrest'⟩
        exact absurd (h a) (Memory.read_ne_of_first hb rest hfrom hlt)
      · obtain rfl : b = b' := by simpa only [Memory.read_cons_self] using h a
        rw [ih hrest hrest' (Memory.read_eq_of_cons hrest hrest' h)]
      · have hfrom : Memory.sortedFrom a ((a, b) :: rest) = true := Memory.sortedFrom_cons.2 ⟨le_rfl, hb, hrest⟩
        exact absurd (h a').symm (Memory.read_ne_of_first hb' rest' hfrom hgt)

end

/-! ### The statement -/

/-- Settles O24: both arrays are sorted from offset 0 on, and list alike. -/
theorem arraysThatReadAlikeAreEqual : Obligations.ArraysThatReadAlikeAreEqual :=
  fun _ _ => Memory.eq_of_read_eq

end Sys2Proof.Machine
end
